-- ==== Sys2Proof/Word.lean ====
section
/-!
DEFINITION. The word types of the machine (00_scope.md R11: bit 0 is the least significant bit,
data values are unsigned 8-bit numbers, arithmetic wraps).
-/

namespace Sys2Proof

/-- An 8-bit data value: a register, a port, a program byte, a control word. -/
abbrev Byte := BitVec 8

/-- A 16-bit program address (10_state.md R44). -/
abbrev Addr := BitVec 16

/-- A 2-bit flag state, bit 1 carry and bit 0 zero (10_state.md R40). -/
abbrev FlagState := BitVec 2

end Sys2Proof
end

