-- ==== Sys2Proof/Config.lean ====
section
/-!
DEFINITION. What is fixed for the machine: the parameters of 00_scope.md R9 and R10 at the values
the spec takes, the contents unlisted memory reads as, and the one free value, the input port.
-/

namespace Sys2Proof.Config

/-- Width of the control word's transfer field (R10, 30_encoding.md R100). -/
def xferBits : Nat := 4

/-- Number of opcodes (R9). -/
def opcodeCount : Nat := 256

/-- Steps in one row of the control ROM (R9). -/
def rowLength : Nat := 16

/-- Bytes of the control ROM: 256 opcodes, 4 flag states, 16 steps (R9). -/
def romSize : Nat := 16384

/-- `PROG_SIZE` (R10): every 16-bit address is a program byte. -/
def progSize : Nat := 65536

/-- `GR_SIZE` (R10). -/
def grSize : Nat := 256

/-- What a program byte that nothing has loaded reads as: the assembler's fill, the `NOP` opcode
(20_memory.md R73). DEDUCED, log entry 3. -/
def progFill : Byte := 0x40

/-- What a general register that nothing has written reads as. The spec gives none (10_state.md
R50). DESIGN CHOICE, unsafe, log entry 2. -/
def grFill : Byte := 0x00

/-- What `W SP TMP IMM OUT_A OUT_B` hold at reset. The spec gives none (10_state.md R50).
DESIGN CHOICE, unsafe, log entry 1. -/
def regReset : Byte := 0x00

/-- What `C` and `Z` hold at reset. The spec gives none (10_state.md R50, R382 of
70_reset_and_hazards.md). DESIGN CHOICE, unsafe, log entry 1. -/
def flagReset : Bool := false

/-- The value the outside world drives on `IN` at the `n`-th sample when the host has scheduled
none: a free value, one draw per read (20_memory.md R78, 93 I2). Log entry 4. -/
opaque inPort : Nat → Byte

end Sys2Proof.Config
end

