-- ==== Sys2Proof/Syntax.lean ====
section
/-!
DEFINITION. The syntax of both levels of the machine: registers, ALU operations and transfers of the
control words (10_state.md R36, 30_encoding.md R102, R105), and the machine instructions, one
constructor per row of spec/opcode_table.json (30_encoding.md R116). The 190 filler rows, which
share one mnemonic, are the one constructor `filler`, which carries its opcode (44_nop_halt.md R302).
-/

namespace Sys2Proof

/-- The register catalog in its order (10_state.md R36). -/
inductive Reg where
  | w | pcL | pcH | sp | tmp | regImm | regSp | imm | inPort | outA | outB
  deriving DecidableEq, Repr

/-- The ALU operations in the order of their codes (30_encoding.md R102). -/
inductive AluOp where
  | add | sub | neg | nop | and | or | xor | load
  deriving DecidableEq, Repr

/-- The transfers in the order of their codes 0 to 15 (30_encoding.md R105). `noTransfer` is `NONE`. -/
inductive Transfer where
  | noTransfer
  | spToW | regImmToW | regSpToW | immToW | inToW
  | wToSp | wToRegImm | wToRegSp | wToOutA | wToOutB
  | immToTmp | tmpToPcL | immToPcH
  | immFetch | pcInc
  deriving DecidableEq, Repr

/-- The sources of the accumulator path: operands of transfers 1 to 5 (40_microstep.md R161). -/
inductive Source where
  | sp | regImm | regSp | imm | inPort
  deriving DecidableEq, Repr

/-- The destinations of the accumulator: transfers 6 to 10 (40_microstep.md R169). -/
inductive Dest where
  | sp | regImm | regSp | outA | outB
  deriving DecidableEq, Repr

/-- The machine instructions, in opcode order. `imm8` is the byte after the opcode, an index into
`GR` for a `REG_IMM` operand and the operand itself for `IMM`; `target` is the 16-bit jump target
(30_encoding.md R112, R114). -/
inductive Instr where
  -- WADD (41_alu.md)
  | waddSp
  | waddWbSp
  | waddRegImm (imm8 : Byte)
  | waddWbRegImm (imm8 : Byte)
  | waddRegSp
  | waddWbRegSp
  | waddImm (imm8 : Byte)
  | waddIn
  -- WSUB (41_alu.md)
  | wsubSp
  | wsubWbSp
  | wsubRegImm (imm8 : Byte)
  | wsubWbRegImm (imm8 : Byte)
  | wsubRegSp
  | wsubWbRegSp
  | wsubImm (imm8 : Byte)
  | wsubIn
  -- WNEG (41_alu.md)
  | wnegSp
  | wnegWbSp
  | wnegRegImm (imm8 : Byte)
  | wnegWbRegImm (imm8 : Byte)
  | wnegRegSp
  | wnegWbRegSp
  | wnegImm (imm8 : Byte)
  | wnegIn
  -- WAND (41_alu.md)
  | wandSp
  | wandWbSp
  | wandRegImm (imm8 : Byte)
  | wandWbRegImm (imm8 : Byte)
  | wandRegSp
  | wandWbRegSp
  | wandImm (imm8 : Byte)
  | wandIn
  -- WOR (41_alu.md)
  | worSp
  | worWbSp
  | worRegImm (imm8 : Byte)
  | worWbRegImm (imm8 : Byte)
  | worRegSp
  | worWbRegSp
  | worImm (imm8 : Byte)
  | worIn
  -- WXOR (41_alu.md)
  | wxorSp
  | wxorWbSp
  | wxorRegImm (imm8 : Byte)
  | wxorWbRegImm (imm8 : Byte)
  | wxorRegSp
  | wxorWbRegSp
  | wxorImm (imm8 : Byte)
  | wxorIn
  -- WLOAD (41_alu.md)
  | wloadSp
  | wloadRegImm (imm8 : Byte)
  | wloadRegSp
  | wloadImm (imm8 : Byte)
  | wloadIn
  -- WSTORE (42_store.md)
  | wstoreSp
  | wstoreRegImm (imm8 : Byte)
  | wstoreRegSp
  | wstoreOutA
  | wstoreOutB
  -- jumps (43_jump.md)
  | jmp (target : Addr)
  | jz (target : Addr)
  | jnz (target : Addr)
  | jc (target : Addr)
  | jnc (target : Addr)
  | jzc (target : Addr)
  -- NOP (44_nop_halt.md R300)
  | nop
  -- HALT (R301)
  | halt
  -- filler opcodes 0x42 to 0xFF (R302)
  | filler (code : Byte)
  deriving DecidableEq, Repr

end Sys2Proof
end

