-- ==== Sys2Proof/Machine/MicroStep.lean ====
section
/-!
DEFINITION. Registers' capabilities, ALU and transfer codes, and the micro-step with its byte, the
control word (10_state.md section 3, 30_encoding.md sections 1 to 4, 40_microstep.md section 1).
The errors are the build-time errors of 60_exceptions.md section 1.
-/

namespace Sys2Proof

/-- The build-time errors of the initializer (60_exceptions.md R350 to R359). They surface from
the generator's functions, never from a step of the machine. -/
inductive BuildError where
  /-- `TransferCatalogConfigError` (R351): two transfers share a code, a code is too wide, or another
  property that 30_encoding.md R106 asks of the catalog fails. -/
  | transferCatalogConfig
  /-- `RegisterCapabilityError` (R352), with the pair asked for. -/
  | registerCapability (src dst : Reg)
  /-- `IllegalStepError` (R354), with the step asked for. -/
  | illegalStep (transfer : Transfer) (alu : AluOp) (reset : Bool)
  /-- `TableOverflowError` (R356). -/
  | tableOverflow
  /-- `BranchLengthMismatchError` (R355), with the opcode. -/
  | branchLengthMismatch (opcode : Nat)
  /-- `DuplicateInstructionError` (R358), with the key. -/
  | duplicateInstruction (name operand : String)
  /-- `UnknownInstructionError` (R357), with the key. -/
  | unknownInstruction (name operand : String)
  /-- A post-generation check (45_table_generator.md R330, R331) failed in a way the spec gives no
  error name: the model's own, never raised (log entry 16). -/
  | tableInvariant
  deriving DecidableEq, Repr

/-! ## Registers -/

/-- The catalog's order (10_state.md R36, "registerOrder" of 45_table_generator.md R312). -/
def Reg.all : List Reg :=
  [.w, .pcL, .pcH, .sp, .tmp, .regImm, .regSp, .imm, .inPort, .outA, .outB]

/-- `canSource` (10_state.md R36). -/
def Reg.canSource : Reg → Bool
  | .w | .sp | .tmp | .regImm | .regSp | .imm | .inPort => true
  | .pcL | .pcH | .outA | .outB => false

/-- `canDestination` (10_state.md R36). -/
def Reg.canDestination : Reg → Bool
  | .w | .pcL | .pcH | .sp | .tmp | .regImm | .regSp | .outA | .outB => true
  | .imm | .inPort => false

/-- The register's name, which is also its operand string (10_state.md R36, decision D15). -/
def Reg.name : Reg → String
  | .w => "W" | .pcL => "PC_L" | .pcH => "PC_H" | .sp => "SP" | .tmp => "TMP"
  | .regImm => "REG_IMM" | .regSp => "REG_SP" | .imm => "IMM" | .inPort => "IN"
  | .outA => "OUT_A" | .outB => "OUT_B"

/-! ## ALU operations -/

/-- The ALU codes (30_encoding.md R102). -/
def AluOp.code : AluOp → BitVec 3
  | .add => 0 | .sub => 1 | .neg => 2 | .nop => 3
  | .and => 4 | .or => 5 | .xor => 6 | .load => 7

/-- The ALU operation of a 3-bit field: every value is one (R102). -/
def AluOp.ofCode (c : BitVec 3) : AluOp :=
  [AluOp.add, .sub, .neg, .nop, .and, .or, .xor, .load].getD c.toNat .nop

/-- The operation's name (R102); `W` before it makes the instruction's (41_alu.md R200). -/
def AluOp.name : AluOp → String
  | .add => "ADD" | .sub => "SUB" | .neg => "NEG" | .nop => "NOP"
  | .and => "AND" | .or => "OR" | .xor => "XOR" | .load => "LOAD"

/-! ## Transfers -/

/-- The transfers in code order (30_encoding.md R105). -/
def Transfer.all : List Transfer :=
  [.noTransfer, .spToW, .regImmToW, .regSpToW, .immToW, .inToW, .wToSp, .wToRegImm, .wToRegSp,
   .wToOutA, .wToOutB, .immToTmp, .tmpToPcL, .immToPcH, .immFetch, .pcInc]

/-- The transfer codes (R105). -/
def Transfer.code : Transfer → BitVec 4
  | .noTransfer => 0
  | .spToW => 1 | .regImmToW => 2 | .regSpToW => 3 | .immToW => 4 | .inToW => 5
  | .wToSp => 6 | .wToRegImm => 7 | .wToRegSp => 8 | .wToOutA => 9 | .wToOutB => 10
  | .immToTmp => 11 | .tmpToPcL => 12 | .immToPcH => 13
  | .immFetch => 14 | .pcInc => 15

/-- The transfer of a 4-bit field: the code space is dense (30_encoding.md R106). -/
def Transfer.ofCode (c : BitVec 4) : Transfer :=
  Transfer.all.getD c.toNat .noTransfer

/-- The source register; a pseudo-transfer has none (R105). -/
def Transfer.source : Transfer → Option Reg
  | .spToW => some .sp | .regImmToW => some .regImm | .regSpToW => some .regSp
  | .immToW => some .imm | .inToW => some .inPort
  | .wToSp | .wToRegImm | .wToRegSp | .wToOutA | .wToOutB => some .w
  | .immToTmp => some .imm | .tmpToPcL => some .tmp | .immToPcH => some .imm
  | .noTransfer | .immFetch | .pcInc => none

/-- The destination register; a pseudo-transfer has none (R105). -/
def Transfer.dest : Transfer → Option Reg
  | .spToW | .regImmToW | .regSpToW | .immToW | .inToW => some .w
  | .wToSp => some .sp | .wToRegImm => some .regImm | .wToRegSp => some .regSp
  | .wToOutA => some .outA | .wToOutB => some .outB
  | .immToTmp => some .tmp | .tmpToPcL => some .pcL | .immToPcH => some .pcH
  | .noTransfer | .immFetch | .pcInc => none

/-- `transfer(src, dst)` (30_encoding.md R107). -/
def transferOf (src dst : Reg) : Except BuildError Transfer :=
  if src.canSource && dst.canDestination then
    match Transfer.all.find? (fun t => t.source == some src && t.dest == some dst) with
    | some t => .ok t
    | none => .error (.registerCapability src dst)
  else .error (.registerCapability src dst)

/-- Whether the catalog defines a transfer `src -> dst` (the filters of R311). -/
def transferDefined (src dst : Reg) : Bool :=
  match transferOf src dst with
  | .ok _ => true
  | .error _ => false

/-- The (source, destination) pair of a transfer; a pseudo-transfer has none (R105). -/
def Transfer.pair (t : Transfer) : Option (Reg × Reg) :=
  match t.source, t.dest with
  | some src, some dst => some (src, dst)
  | _, _ => none

/-- A row of a transfer catalog that is still to be checked. The code is a natural number, since such a
catalog may hold one too wide for the field. -/
structure TransferRow where
  pair : Option (Reg × Reg)
  code : Nat
  deriving DecidableEq, Repr

/-- The rows of this catalog (R105). -/
def transferRows : List TransferRow := Transfer.all.map fun t => ⟨t.pair, t.code.toNat⟩

/-- Codes are pairwise distinct and fit the field's width (30_encoding.md R106, 60_exceptions.md
R351). -/
def transferCodesFit (bits : Nat) (rows : List TransferRow) : Bool :=
  decide ((rows.map (·.code)).Nodup) && rows.all fun r => decide (r.code < 2 ^ bits)

/-- The code space is dense: every value of the field is a transfer (R106). -/
def transferCodesDense (bits : Nat) (rows : List TransferRow) : Bool :=
  (List.range (2 ^ bits)).all fun c => rows.any fun r => r.code == c

/-- A pair's source is a legal source and its destination a legal destination (R106, 10_state.md
R36). -/
def transferPairCapable (pair : Reg × Reg) : Bool := pair.1.canSource && pair.2.canDestination

/-- Each pair maps to exactly one code, and its registers have the capabilities (R106). -/
def transferPairsLegal (rows : List TransferRow) : Bool :=
  decide ((rows.filterMap (·.pair)).Nodup) && (rows.filterMap (·.pair)).all transferPairCapable

/-- The check of a transfer catalog when it is built: a failure of any of the properties of R106 is the
configuration error (60_exceptions.md R351). -/
def checkTransferCatalog (bits : Nat) (rows : List TransferRow) : Except BuildError Unit :=
  if transferCodesFit bits rows && transferCodesDense bits rows && transferPairsLegal rows then .ok ()
  else .error .transferCatalogConfig

/-! ## Micro-steps -/

/-- The accumulator-write rule (40_microstep.md R150). -/
def legalStep (transfer : Transfer) (alu : AluOp) (reset : Bool) : Bool :=
  if reset then transfer == .noTransfer && alu == .nop
  else if transfer.dest == some .w then alu != .nop
  else alu == .nop

/-- A micro-step, legal by construction (R150): an illegal one cannot be built. -/
structure MicroStep where
  transfer : Transfer
  alu : AluOp
  reset : Bool
  legal : legalStep transfer alu reset = true
  deriving DecidableEq, Repr

/-- The micro-step constructor with its checks (R150, 60_exceptions.md R354). -/
def mkStep (transfer : Transfer) (alu : AluOp) (reset : Bool) : Except BuildError MicroStep :=
  if h : legalStep transfer alu reset = true then .ok ⟨transfer, alu, reset, h⟩
  else .error (.illegalStep transfer alu reset)

/-- `mv(src, dst, op)` (R153). -/
def mv (src dst : Reg) (op : AluOp) : Except BuildError MicroStep :=
  match transferOf src dst with
  | .ok t => mkStep t op false
  | .error e => .error e

/-- `RESET`: the reset step (R153). -/
def microReset : MicroStep := ⟨.noTransfer, .nop, true, rfl⟩

/-- `NOPSTEP`: the global no-op step (R152). -/
def microNop : MicroStep := ⟨.noTransfer, .nop, false, rfl⟩

/-- `FETCH` (R153). -/
def microFetch : MicroStep := ⟨.immFetch, .nop, false, rfl⟩

/-- `PCINC` (R153). -/
def microPcInc : MicroStep := ⟨.pcInc, .nop, false, rfl⟩

/-! ## Control words -/

/-- The byte of a micro-step: bit 7 reset, bits 6:4 the ALU code, bits 3:0 the transfer code; a reset
step is `0x80` (30_encoding.md R100, R108). -/
def encodeStep (m : MicroStep) : Byte :=
  if m.reset then 0x80
  else (m.alu.code.setWidth 8 <<< 4) ||| m.transfer.code.setWidth 8

/-- The micro-step of a control word, `none` where the word is not legal (R109 to R111). -/
def decodeWord (word : Byte) : Option MicroStep :=
  if word.getLsbD 7 then
    if word = 0x80 then some microReset else none
  else
    let transfer := Transfer.ofCode (word.extractLsb' 0 4)
    let alu := AluOp.ofCode (word.extractLsb' 4 3)
    if h : legalStep transfer alu false = true then some ⟨transfer, alu, false, h⟩ else none

/-- Whether a byte is a legal control word (R109, R110). -/
def legalWord (word : Byte) : Bool := (decodeWord word).isSome

end Sys2Proof
end

