-- ==== Sys2Proof/Machine/Balancer.lean ====
section
/-!
DEFINITION. The branch balancer (40_microstep.md section 5).
-/

namespace Sys2Proof

/-- A sequence of micro-steps. -/
abbrev Steps := List MicroStep

/-- A side of a branch; one that is not given is the global no-op step (R191). -/
def branchSide (side : Option Steps) : Steps := side.getD [microNop]

/-- `always(t, e)` (R186, 90_conflicts.md C4). -/
def always (t e : Option Steps) : List Steps :=
  let _ := e
  [branchSide t, branchSide t, branchSide t, branchSide t]

/-- `never(t, e)` (R187). -/
def never (t e : Option Steps) : List Steps :=
  let _ := t
  [branchSide e, branchSide e, branchSide e, branchSide e]

/-- `onZero(t, e)` (R188). -/
def onZero (t e : Option Steps) : List Steps :=
  [branchSide e, branchSide t, branchSide e, branchSide t]

/-- `onCarry(t, e)` (R189). -/
def onCarry (t e : Option Steps) : List Steps :=
  [branchSide e, branchSide e, branchSide t, branchSide t]

/-- `onBoth(t, e)` (R190). -/
def onBoth (t e : Option Steps) : List Steps :=
  [branchSide e, branchSide e, branchSide e, branchSide t]

/-- The length of the longest branch (R192). -/
def longestBranch (branches : List Steps) : Nat :=
  branches.foldr (fun b m => max b.length m) 0

/-- The branch of a flag state. -/
def branchOf (f : FlagState) (branches : List Steps) : Steps := branches.getD f.toNat []

/-- `balance(f, branches)` (R192). -/
def balance (f : FlagState) (branches : List Steps) : Steps :=
  branchOf f branches ++
    List.replicate (longestBranch branches - (branchOf f branches).length) microNop

end Sys2Proof
end

