-- ==== Sys2Proof/Machine/Catalog.lean ====
section
/-!
DEFINITION. The instruction kinds, their micro-step sequences, and the instruction catalog S1
(45_table_generator.md section 1; 41_alu.md R200, 42_store.md R270, 43_jump.md R280,
44_nop_halt.md R300, R301).
-/

namespace Sys2Proof

/-- The combinators a conditional jump may use (40_microstep.md R186 to R190). -/
inductive Policy where
  | always | never | onZero | onCarry | onBoth
  deriving DecidableEq, Repr

/-- The branch array of a policy. -/
def Policy.branches (p : Policy) (t e : Steps) : List Steps :=
  match p with
  | .always => Sys2Proof.always (some t) (some e)
  | .never => Sys2Proof.never (some t) (some e)
  | .onZero => Sys2Proof.onZero (some t) (some e)
  | .onCarry => Sys2Proof.onCarry (some t) (some e)
  | .onBoth => Sys2Proof.onBoth (some t) (some e)

/-- The closed union of instruction kinds (R310). A jump carries its name, its policy and whether its
two paths are passed in swapped order (R280). -/
inductive Kind where
  | aluOp (op : AluOp) (x : Reg) (wb : Bool)
  | store (x : Reg)
  | conditionalJump (name : String) (policy : Policy) (swapped : Bool)
  | noOp
  | halt
  deriving DecidableEq, Repr

/-- The sequence of an ALU instruction (41_alu.md R200). -/
def aluSteps (op : AluOp) (x : Reg) (wb : Bool) : Except BuildError Steps := do
  let toW ← mv x .w op
  let back ← if wb then (mv .w x .nop).map ([·]) else .ok []
  return (if x == .imm || x == .regImm then [microFetch] else []) ++ [toW] ++ back ++
    [microPcInc, microReset]

/-- The sequence of a store (42_store.md R270). -/
def storeSteps (x : Reg) : Except BuildError Steps := do
  let out ← mv .w x .nop
  return (if x == .regImm then [microFetch] else []) ++ [out] ++ [microPcInc, microReset]

/-- The sequence of a jump in flag state `f` (43_jump.md R280): the common prefix, the balanced
paths, one closing reset step (40_microstep.md R194). -/
def jumpSteps (policy : Policy) (swapped : Bool) (f : FlagState) : Except BuildError Steps := do
  let toTmp ← mv .imm .tmp .nop
  let toPcL ← mv .tmp .pcL .nop
  let toPcH ← mv .imm .pcH .nop
  let taken := [toPcL, toPcH]
  let notTaken := [microPcInc]
  let branches := if swapped then policy.branches notTaken taken else policy.branches taken notTaken
  return [microFetch, toTmp, microFetch] ++ balance f branches ++ [microReset]

/-- `stepsFor(flags)` of each kind (R310). -/
def Kind.stepsFor (k : Kind) (f : FlagState) : Except BuildError Steps :=
  match k with
  | .aluOp op x wb => aluSteps op x wb
  | .store x => storeSteps x
  | .conditionalJump _ policy swapped => jumpSteps policy swapped f
  | .noOp => .ok [microPcInc, microReset]
  | .halt => .ok [microReset]

/-- The mnemonic (decision D15). -/
def Kind.name : Kind → String
  | .aluOp op _ wb => "W" ++ op.name ++ (if wb then "_WB" else "")
  | .store _ => "WSTORE"
  | .conditionalJump name _ _ => name
  | .noOp => "NOP"
  | .halt => "HALT"

/-- The operand string (decision D15). -/
def Kind.operand : Kind → String
  | .aluOp _ x _ => x.name
  | .store x => x.name
  | .conditionalJump _ _ _ => "ADDR"
  | .noOp => ""
  | .halt => ""

/-- A catalog entry: its identity, whether it is filler, and its pure behaviour (R303, R310). A catalog
given to the generator may hold entries of no kind of this one, so the behaviour is a function. -/
structure Entry where
  name : String
  operand : String
  filler : Bool
  stepsFor : FlagState → Except BuildError Steps

/-- The real entry of a kind. -/
def Kind.entry (k : Kind) : Entry := ⟨k.name, k.operand, false, k.stepsFor⟩

/-- A filler entry: a no-op named `NOP` with no operand (R326, 44_nop_halt.md R302). -/
def fillerEntry : Entry := ⟨Kind.noOp.name, Kind.noOp.operand, true, Kind.noOp.stepsFor⟩

/-- The operations of the ALU kind: the seven other than `NOP`, in code order (R312). -/
def catalogOps : List AluOp := [.add, .sub, .neg, .and, .or, .xor, .load]

/-- Which registers may be the operand of an ALU instruction (R200, R311). -/
def aluOperand (x : Reg) : Bool := x != .w && x.canSource && transferDefined x .w

/-- Which combinations have a writeback variant (R200, R311): not the pure load, not a
program-counter operand (90_conflicts.md C7), and the operand must accept writes. -/
def writebackAllowed (op : AluOp) (x : Reg) : Bool :=
  op != .load && x != .pcL && x != .pcH && x.canDestination && transferDefined .w x

/-- The ALU part of the catalog (R312). -/
def aluKinds : List Kind :=
  catalogOps.flatMap fun op =>
    (Reg.all.filter aluOperand).flatMap fun x =>
      ([false, true].filter fun wb => !wb || writebackAllowed op x).map fun wb => .aluOp op x wb

/-- The store part: every other register `W` has a transfer to (R312). -/
def storeKinds : List Kind :=
  (Reg.all.filter fun x => x != .w && x.canDestination && transferDefined .w x).map .store

/-- The six jumps (R312). -/
def jumpKinds : List Kind :=
  [.conditionalJump "JMP" .always false, .conditionalJump "JZ" .onZero false,
   .conditionalJump "JNZ" .onZero true, .conditionalJump "JC" .onCarry false,
   .conditionalJump "JNC" .onCarry true, .conditionalJump "JZC" .onBoth false]

/-- The catalog S1 in the order that assigns the opcodes (R312). -/
def catalogKinds : List Kind := aluKinds ++ storeKinds ++ jumpKinds ++ [.noOp, .halt]

/-- `buildCatalog()` (R310, R312). -/
def buildCatalog : List Entry := catalogKinds.map Kind.entry

end Sys2Proof
end

