-- ==== Sys2Proof/Machine/Generator.lean ====
section
/-!
DEFINITION. The initializer: the table generator, its checks, the opcode index, and the control ROM
they fix (45_table_generator.md sections 2 to 4). A model of it is a function to the whole table or
the first error, never both (60_exceptions.md R350).
-/

namespace Sys2Proof

/-- The control table: opcode, then flag state, then step (20_memory.md R71). -/
abbrev ControlTable := List (List (List Byte))

/-- The flag states in order. -/
def flagStates : List FlagState := [0, 1, 2, 3]

/-- Fills a sequence out to 16 bytes with reset steps (R324). -/
def padRow (steps : Steps) : List Byte :=
  steps.map encodeStep ++ List.replicate (Config.rowLength - steps.length) (encodeStep microReset)

/-- The four rows of one opcode with their checks (R320): each behaviour is run, no sequence is
longer than 16 steps (R322), all four have one length (R323). -/
def generateRows (opcode : Nat) (e : Entry) : Except BuildError (List (List Byte)) := do
  let s0 ← e.stepsFor 0
  let s1 ← e.stepsFor 1
  let s2 ← e.stepsFor 2
  let s3 ← e.stepsFor 3
  if Config.rowLength < s0.length ∨ Config.rowLength < s1.length ∨
      Config.rowLength < s2.length ∨ Config.rowLength < s3.length then
    .error .tableOverflow
  else if s1.length ≠ s0.length ∨ s2.length ≠ s0.length ∨ s3.length ≠ s0.length then
    .error (.branchLengthMismatch opcode)
  else
    .ok [padRow s0, padRow s1, padRow s2, padRow s3]

/-- The rows of all opcodes from `opcode` on, in increasing order (60_exceptions.md R359). -/
def generateTable (opcode : Nat) : List Entry → Except BuildError ControlTable
  | [] => .ok []
  | e :: rest => do
    let rows ← generateRows opcode e
    let more ← generateTable (opcode + 1) rest
    return rows :: more

/-- The catalog filled out to 256 entries with no-ops (R326). -/
def padCatalog (cat : List Entry) : List Entry :=
  cat ++ List.replicate (Config.opcodeCount - cat.length) fillerEntry

/-! ## The opcode index -/

/-- (mnemonic, operand) to opcode, in insertion order (R340). -/
abbrev OpcodeIndex := List ((String × String) × Nat)

/-- Looks a key up: exact, case-sensitive equality (R341). -/
def indexFind (index : OpcodeIndex) (name operand : String) : Option Nat :=
  match index with
  | [] => none
  | (key, opcode) :: rest =>
    if key.1 = name ∧ key.2 = operand then some opcode else indexFind rest name operand

/-- `buildIndex`, from opcode `opcode` on: filler is skipped, a key already present is an error
(R340, 44_nop_halt.md R303). -/
def buildIndex (opcode : Nat) (index : OpcodeIndex) : List Entry → Except BuildError OpcodeIndex
  | [] => .ok index
  | e :: rest =>
    if e.filler then buildIndex (opcode + 1) index rest
    else
      match indexFind index e.name e.operand with
      | some _ => .error (.duplicateInstruction e.name e.operand)
      | none => buildIndex (opcode + 1) (index ++ [((e.name, e.operand), opcode)]) rest

/-- Every non-filler entry, from opcode `opcode` on, resolves to its own opcode (R331). -/
def resolvesToItself (opcode : Nat) (index : OpcodeIndex) : List Entry → Bool
  | [] => true
  | e :: rest =>
    (e.filler || indexFind index e.name e.operand == some opcode) &&
      resolvesToItself (opcode + 1) index rest

/-- `checkInvariants` (R330, R331): 256 opcodes, four rows of 16 each, every byte a legal control word;
the index inverts the assignment, with one key for every non-filler entry. -/
def checkInvariants (full : List Entry) (table : ControlTable) (index : OpcodeIndex) :
    Except BuildError Unit :=
  if table.length == Config.opcodeCount &&
      table.all (fun rows => rows.length == 4 &&
        rows.all fun row => row.length == Config.rowLength && row.all legalWord) &&
      resolvesToItself 0 index full &&
      index.length == (full.filter fun e => !e.filler).length then .ok ()
  else .error .tableInvariant

/-- `generate()` over a given catalog (R320): the first failing check ends it. -/
def generateFrom (cat : List Entry) : Except BuildError ControlTable :=
  if Config.opcodeCount < cat.length then .error .tableOverflow
  else do
    let full := padCatalog cat
    let table ← generateTable 0 full
    let index ← buildIndex 0 [] cat
    checkInvariants full table index
    return table

/-- `generateControlTable()`: the transfer catalog's check, then the generation from catalog S1
(R320, R325, 60_exceptions.md R351, R359). -/
def generateControlTable : Except BuildError ControlTable := do
  checkTransferCatalog Config.xferBits transferRows
  generateFrom buildCatalog

/-! ## The index of catalog S1 -/

/-- The index's entries from opcode `opcode` on, duplicates not yet refused. -/
def indexEntries (opcode : Nat) : List Entry → OpcodeIndex
  | [] => []
  | e :: rest =>
    (if e.filler then [] else [((e.name, e.operand), opcode)]) ++ indexEntries (opcode + 1) rest

/-- The opcode index of catalog S1: 66 keys (R340). -/
def opcodeIndex : OpcodeIndex := indexEntries 0 buildCatalog

/-- `resolveOpcode(name, operand)` (R341, 60_exceptions.md R357). -/
def resolveOpcode (name operand : String) : Except BuildError Byte :=
  match indexFind opcodeIndex name operand with
  | some opcode => .ok (BitVec.ofNat 8 opcode)
  | none => .error (.unknownInstruction name operand)

/-- The catalog of all 256 opcodes (R326). -/
def fullCatalog : List Entry := padCatalog buildCatalog

/-- `describeOpcode(code)`: total, a filler answers `("NOP", "")` (R342). -/
def describeOpcode (code : Byte) : String × String :=
  match fullCatalog[code.toNat]? with
  | some e => (e.name, e.operand)
  | none => (fillerEntry.name, fillerEntry.operand)

/-! ## The control ROM -/

/-- An entry's sequence in a flag state. -/
def Entry.steps (e : Entry) (f : FlagState) : Steps :=
  match e.stepsFor f with
  | .ok steps => steps
  | .error _ => []

/-- An entry's four rows. -/
def Entry.rows (e : Entry) : List (List Byte) := flagStates.map fun f => padRow (e.steps f)

/-- The table of catalog S1, cell by cell: what `generateControlTable` answers
(`generateControlTable_eq`, Laws/Generator.lean). -/
def controlTable : ControlTable := fullCatalog.map Entry.rows

/-- `ROM[o][f][s]` as the generator fixes it (10_state.md R32). -/
def romByte (opcode : Byte) (f : FlagState) (step : BitVec 4) : Byte :=
  ((controlTable.getD opcode.toNat []).getD f.toNat []).getD step.toNat 0x80

/-- The ROM's linear address (20_memory.md R71). -/
def romAddr (opcode : Byte) (f : FlagState) (step : BitVec 4) : BitVec 14 :=
  opcode ++ f ++ step

/-- The generated byte at a linear address: `A[13:6] = o`, `A[5:4] = f`, `A[3:0] = s` (R71). -/
def romByteAt (a : BitVec 14) : Byte :=
  romByte (a.extractLsb' 6 8) (a.extractLsb' 4 2) (a.extractLsb' 0 4)

/-- The address of row `r = o*4 + f`, the emitter's row order (R344). -/
def romRowAddr (opcode : Byte) (f : FlagState) : Nat := 16 * (opcode.toNat * 4 + f.toNat)

end Sys2Proof
end

