-- ==== Sys2Proof/WellFormed.lean ====
section
/-!
DEFINITION. Which instruction terms stand for words of the machine.
-/

namespace Sys2Proof

/-- Every operand byte and every 16-bit target is admitted (30_encoding.md R114, 43_jump.md R287);
a filler's opcode is one of `0x42` to `0xFF` (44_nop_halt.md R302). -/
def Instr.wellFormed : Instr → Bool
  | .filler code => decide (0x42 ≤ code.toNat)
  | _ => true

end Sys2Proof
end

