-- ==== Sys2Proof/Decode.lean ====
section
/-!
DEFINITION. From bytes to instructions and back (30_encoding.md R112 to R117). The opcode byte has no
fields: the whole byte selects a row of the opcode map R116, which gives the format; the operand bytes
follow it. No opcode is refused (R117); the decoder refuses, by name, only byte lists too short.
-/

namespace Sys2Proof

/-- Why a list of bytes holds no whole instruction. Never raised on three bytes. -/
inductive DecodeError where
  /-- There is no opcode byte. -/
  | noOpcode
  /-- The opcode's format asks for more operand bytes than there are. -/
  | operandMissing (opcode : Byte)
  deriving DecidableEq, Repr

/-- A row of the opcode map: the instruction's format (R112) with its operand still to be read. -/
inductive OpForm where
  | op (i : Instr)
  | opImm8 (mk : Byte → Instr)
  | opAddr16 (mk : Addr → Instr)

/-- Opcodes 0x00 to 0x07, the `WADD` rows of R116. -/
def waddForms : List OpForm :=
  [.op .waddSp, .op .waddWbSp, .opImm8 .waddRegImm, .opImm8 .waddWbRegImm, .op .waddRegSp,
   .op .waddWbRegSp, .opImm8 .waddImm, .op .waddIn]

/-- Opcodes 0x08 to 0x0F, the `WSUB` rows of R116. -/
def wsubForms : List OpForm :=
  [.op .wsubSp, .op .wsubWbSp, .opImm8 .wsubRegImm, .opImm8 .wsubWbRegImm, .op .wsubRegSp,
   .op .wsubWbRegSp, .opImm8 .wsubImm, .op .wsubIn]

/-- Opcodes 0x10 to 0x17, the `WNEG` rows of R116. -/
def wnegForms : List OpForm :=
  [.op .wnegSp, .op .wnegWbSp, .opImm8 .wnegRegImm, .opImm8 .wnegWbRegImm, .op .wnegRegSp,
   .op .wnegWbRegSp, .opImm8 .wnegImm, .op .wnegIn]

/-- Opcodes 0x18 to 0x1F, the `WAND` rows of R116. -/
def wandForms : List OpForm :=
  [.op .wandSp, .op .wandWbSp, .opImm8 .wandRegImm, .opImm8 .wandWbRegImm, .op .wandRegSp,
   .op .wandWbRegSp, .opImm8 .wandImm, .op .wandIn]

/-- Opcodes 0x20 to 0x27, the `WOR` rows of R116. -/
def worForms : List OpForm :=
  [.op .worSp, .op .worWbSp, .opImm8 .worRegImm, .opImm8 .worWbRegImm, .op .worRegSp,
   .op .worWbRegSp, .opImm8 .worImm, .op .worIn]

/-- Opcodes 0x28 to 0x2F, the `WXOR` rows of R116. -/
def wxorForms : List OpForm :=
  [.op .wxorSp, .op .wxorWbSp, .opImm8 .wxorRegImm, .opImm8 .wxorWbRegImm, .op .wxorRegSp,
   .op .wxorWbRegSp, .opImm8 .wxorImm, .op .wxorIn]

/-- Opcodes 0x30 to 0x34, the `WLOAD` rows of R116. -/
def wloadForms : List OpForm :=
  [.op .wloadSp, .opImm8 .wloadRegImm, .op .wloadRegSp, .opImm8 .wloadImm, .op .wloadIn]

/-- Opcodes 0x35 to 0x39, the `WSTORE` rows of R116. -/
def wstoreForms : List OpForm :=
  [.op .wstoreSp, .opImm8 .wstoreRegImm, .op .wstoreRegSp, .op .wstoreOutA, .op .wstoreOutB]

/-- Opcodes 0x3A to 0x3F, the jump rows of R116. -/
def jumpForms : List OpForm :=
  [.opAddr16 .jmp, .opAddr16 .jz, .opAddr16 .jnz, .opAddr16 .jc, .opAddr16 .jnc,
   .opAddr16 .jzc]

/-- Opcodes 0x40 to 0x41, the `NOP` and `HALT` rows of R116. -/
def nopHaltForms : List OpForm :=
  [.op .nop, .op .halt]

/-- The real rows of the opcode map, opcode 0 first (R115, R116). -/
def opcodeForms : List OpForm :=
  waddForms ++ wsubForms ++ wnegForms ++ wandForms ++ worForms ++
  wxorForms ++ wloadForms ++ wstoreForms ++ jumpForms ++ nopHaltForms

/-- The row an opcode selects: one of the 66 real ones, else filler (R116, R302). -/
def formOf (opcode : Byte) : OpForm :=
  match opcodeForms[opcode.toNat]? with
  | some form => form
  | none => .op (.filler opcode)

/-- The target of a jump from its two operand bytes, low byte first (20_memory.md R76, R114). -/
def targetOf (lo hi : Byte) : Addr := hi ++ lo

/-- Low byte of a target: byte 1 of `OP_ADDR16`. -/
def targetLo (target : Addr) : Byte := target.extractLsb' 0 8

/-- High byte of a target: byte 2 of `OP_ADDR16`. -/
def targetHi (target : Addr) : Byte := target.extractLsb' 8 8

/-- Reads one instruction from the front of a byte list and returns it with the rest. -/
def decode : List Byte → Except DecodeError (Instr × List Byte)
  | [] => .error .noOpcode
  | opcode :: rest =>
    match formOf opcode, rest with
    | .op i, rest => .ok (i, rest)
    | .opImm8 mk, imm8 :: rest => .ok (mk imm8, rest)
    | .opAddr16 mk, lo :: hi :: rest => .ok (mk (targetOf lo hi), rest)
    | _, _ => .error (.operandMissing opcode)

/-! ## The encoder -/

/-- The opcode byte of an instruction (R116). -/
def Instr.opcode : Instr → Byte
  | .waddSp => 0x00
  | .waddWbSp => 0x01
  | .waddRegImm _ => 0x02
  | .waddWbRegImm _ => 0x03
  | .waddRegSp => 0x04
  | .waddWbRegSp => 0x05
  | .waddImm _ => 0x06
  | .waddIn => 0x07
  | .wsubSp => 0x08
  | .wsubWbSp => 0x09
  | .wsubRegImm _ => 0x0A
  | .wsubWbRegImm _ => 0x0B
  | .wsubRegSp => 0x0C
  | .wsubWbRegSp => 0x0D
  | .wsubImm _ => 0x0E
  | .wsubIn => 0x0F
  | .wnegSp => 0x10
  | .wnegWbSp => 0x11
  | .wnegRegImm _ => 0x12
  | .wnegWbRegImm _ => 0x13
  | .wnegRegSp => 0x14
  | .wnegWbRegSp => 0x15
  | .wnegImm _ => 0x16
  | .wnegIn => 0x17
  | .wandSp => 0x18
  | .wandWbSp => 0x19
  | .wandRegImm _ => 0x1A
  | .wandWbRegImm _ => 0x1B
  | .wandRegSp => 0x1C
  | .wandWbRegSp => 0x1D
  | .wandImm _ => 0x1E
  | .wandIn => 0x1F
  | .worSp => 0x20
  | .worWbSp => 0x21
  | .worRegImm _ => 0x22
  | .worWbRegImm _ => 0x23
  | .worRegSp => 0x24
  | .worWbRegSp => 0x25
  | .worImm _ => 0x26
  | .worIn => 0x27
  | .wxorSp => 0x28
  | .wxorWbSp => 0x29
  | .wxorRegImm _ => 0x2A
  | .wxorWbRegImm _ => 0x2B
  | .wxorRegSp => 0x2C
  | .wxorWbRegSp => 0x2D
  | .wxorImm _ => 0x2E
  | .wxorIn => 0x2F
  | .wloadSp => 0x30
  | .wloadRegImm _ => 0x31
  | .wloadRegSp => 0x32
  | .wloadImm _ => 0x33
  | .wloadIn => 0x34
  | .wstoreSp => 0x35
  | .wstoreRegImm _ => 0x36
  | .wstoreRegSp => 0x37
  | .wstoreOutA => 0x38
  | .wstoreOutB => 0x39
  | .jmp _ => 0x3A
  | .jz _ => 0x3B
  | .jnz _ => 0x3C
  | .jc _ => 0x3D
  | .jnc _ => 0x3E
  | .jzc _ => 0x3F
  | .nop => 0x40
  | .halt => 0x41
  | .filler code => code

/-- The operand bytes after the opcode, in program order (R112, R114). -/
def Instr.operandBytes : Instr → List Byte
  | .waddRegImm imm8 => [imm8]
  | .waddWbRegImm imm8 => [imm8]
  | .waddImm imm8 => [imm8]
  | .wsubRegImm imm8 => [imm8]
  | .wsubWbRegImm imm8 => [imm8]
  | .wsubImm imm8 => [imm8]
  | .wnegRegImm imm8 => [imm8]
  | .wnegWbRegImm imm8 => [imm8]
  | .wnegImm imm8 => [imm8]
  | .wandRegImm imm8 => [imm8]
  | .wandWbRegImm imm8 => [imm8]
  | .wandImm imm8 => [imm8]
  | .worRegImm imm8 => [imm8]
  | .worWbRegImm imm8 => [imm8]
  | .worImm imm8 => [imm8]
  | .wxorRegImm imm8 => [imm8]
  | .wxorWbRegImm imm8 => [imm8]
  | .wxorImm imm8 => [imm8]
  | .wloadRegImm imm8 => [imm8]
  | .wloadImm imm8 => [imm8]
  | .wstoreRegImm imm8 => [imm8]
  | .jmp target => [targetLo target, targetHi target]
  | .jz target => [targetLo target, targetHi target]
  | .jnz target => [targetLo target, targetHi target]
  | .jc target => [targetLo target, targetHi target]
  | .jnc target => [targetLo target, targetHi target]
  | .jzc target => [targetLo target, targetHi target]
  | .waddSp | .waddWbSp | .waddRegSp | .waddWbRegSp | .waddIn | .wsubSp | .wsubWbSp | .wsubRegSp
  | .wsubWbRegSp | .wsubIn | .wnegSp | .wnegWbSp | .wnegRegSp | .wnegWbRegSp | .wnegIn | .wandSp
  | .wandWbSp | .wandRegSp | .wandWbRegSp | .wandIn | .worSp | .worWbSp | .worRegSp |
  .worWbRegSp | .worIn | .wxorSp | .wxorWbSp | .wxorRegSp | .wxorWbRegSp | .wxorIn | .wloadSp |
  .wloadRegSp | .wloadIn | .wstoreSp | .wstoreRegSp | .wstoreOutA | .wstoreOutB | .nop | .halt |
  .filler _ => []

/-- The bytes of an instruction. -/
def encode (i : Instr) : List Byte := i.opcode :: i.operandBytes

/-- The length of an instruction's format in bytes (R112). -/
def Instr.length (i : Instr) : Nat := 1 + i.operandBytes.length

/-! ## Words of the opcode table -/

/-- The three bytes, first byte in bits 7 to 0, of an instruction whose low `nbits` bits are `w` and
whose other bits are 0: as many bytes as the longest instruction has (R112). -/
def wordBytes (nbits w : Nat) : List Byte :=
  let v := w % 2 ^ nbits
  [BitVec.ofNat 8 v, BitVec.ofNat 8 (v / 256), BitVec.ofNat 8 (v / 65536)]

/-- The instruction the decoder reads from a word numbered as spec/opcode_table.json numbers it. -/
def decodeTableWord (nbits w : Nat) : Option Instr :=
  match decode (wordBytes nbits w) with
  | .ok (i, _) => some i
  | .error _ => none

end Sys2Proof
end

