-- ==== Sys2Proof/Machine/State.lean ====
section
/-!
DEFINITION. The machine's state as plain data (10_state.md R31), the reasons a step can stop, and the
state after power-on reset (70_reset_and_hazards.md R380).
-/

namespace Sys2Proof.Machine

/-- Memory as (address, byte) pairs in one canonical form: addresses strictly rising, no pair equal to
what an unlisted address reads as (`Mem.wf` and `Space.fill`, Machine/Ops.lean). -/
abbrev Mem := List Host.Cell

/-- Every piece of state the spec gives the machine, and the model's two fields for the input port. -/
structure State where
  /-- Control ROM: the cells that differ from the generated table (10_state.md R32; log entry 6) -/
  rom : Mem
  /-- Program memory: the bytes that differ from the `NOP` fill (20_memory.md R70, R73; log entry 5) -/
  prog : Mem
  /-- General register file `GR`: the entries that differ from `Config.grFill` (10_state.md R48) -/
  gr : Mem
  /-- Instruction register `IR` (10_state.md R33) -/
  ir : Byte
  /-- Micro-step counter `STEP` (10_state.md R34) -/
  stepCtr : BitVec 4
  /-- Carry flag `C` (10_state.md R39) -/
  flagC : Bool
  /-- Zero flag `Z` (10_state.md R39) -/
  flagZ : Bool
  /-- Program counter, PC_H and PC_L (10_state.md R44) -/
  pc : Addr
  /-- Accumulator `W` (10_state.md R42) -/
  w : Byte
  /-- Stack pointer `SP` (10_state.md R42) -/
  sp : Byte
  /-- Temporary `TMP` (10_state.md R42) -/
  tmp : Byte
  /-- Immediate-fetch latch `IMM` (10_state.md R46) -/
  imm : Byte
  /-- Output latch `OUT_A` (10_state.md R47) -/
  outA : Byte
  /-- Output latch `OUT_B` (10_state.md R47) -/
  outB : Byte
  /-- The MODEL's: bytes the host has scheduled on `IN`, one per coming sample (log entry 4) -/
  inDriven : List Byte
  /-- The MODEL's: how many times `IN` has been sampled (log entry 4) -/
  inSamples : Nat
  deriving DecidableEq, Repr

/-- The reasons the machine stops. The hardware itself has none (60_exceptions.md R360). -/
inductive Fault where
  /-- `IllegalControlWord` (60_exceptions.md R365, 30_encoding.md R110): raised by `cycle` when the byte
  the sequencer fetches is not one of the 47 legal control words. It needs a ROM other than the
  generated one. Safe: the model stops where the spec gives no meaning. -/
  | illegalControlWord (word : Byte)
  deriving DecidableEq, Repr

/-- The reasons a step has no meaning. No instruction of this model is refused. -/
inductive Refusal where
  /-- Raised by an arm of `exec` whose instruction has no meaning yet: there is none. Safe. -/
  | notModelled (mnemonic : String)
  /-- Raised by `runFetched` if the decoder refuses the fetched bytes: it never does, since every
  opcode is defined (30_encoding.md R117) and three bytes are fetched. Safe. -/
  | undecodable (reason : DecodeError)
  deriving DecidableEq, Repr

/-- The machine right after power-on reset with nothing loaded (70_reset_and_hazards.md R380): `PC` and
`STEP` are 0, `IR` is `PROG[0]`, the ROM is the generated table; the registers whose reset value the
spec leaves unspecified hold the values of log entries 1 and 2. -/
def State.reset : State where
  rom := []
  prog := []
  gr := []
  ir := Config.progFill
  stepCtr := 0
  flagC := Config.flagReset
  flagZ := Config.flagReset
  pc := 0x0000
  w := Config.regReset
  sp := Config.regReset
  tmp := Config.regReset
  imm := Config.regReset
  outA := Config.regReset
  outB := Config.regReset
  inDriven := []
  inSamples := 0

/-! ## Named updates, one per field -/

/-- Replaces `rom`. -/
def State.setRom (s : State) (v : Mem) : State := { s with rom := v }

/-- Replaces `prog`. -/
def State.setProg (s : State) (v : Mem) : State := { s with prog := v }

/-- Replaces `gr`. -/
def State.setGr (s : State) (v : Mem) : State := { s with gr := v }

/-- Replaces `ir`. -/
def State.setIr (s : State) (v : Byte) : State := { s with ir := v }

/-- Replaces `stepCtr`. -/
def State.setStepCtr (s : State) (v : BitVec 4) : State := { s with stepCtr := v }

/-- Replaces `flagC`. -/
def State.setFlagC (s : State) (v : Bool) : State := { s with flagC := v }

/-- Replaces `flagZ`. -/
def State.setFlagZ (s : State) (v : Bool) : State := { s with flagZ := v }

/-- Replaces `pc`. -/
def State.setPc (s : State) (v : Addr) : State := { s with pc := v }

/-- Replaces `w`. -/
def State.setW (s : State) (v : Byte) : State := { s with w := v }

/-- Replaces `sp`. -/
def State.setSp (s : State) (v : Byte) : State := { s with sp := v }

/-- Replaces `tmp`. -/
def State.setTmp (s : State) (v : Byte) : State := { s with tmp := v }

/-- Replaces `imm`. -/
def State.setImm (s : State) (v : Byte) : State := { s with imm := v }

/-- Replaces `outA`. -/
def State.setOutA (s : State) (v : Byte) : State := { s with outA := v }

/-- Replaces `outB`. -/
def State.setOutB (s : State) (v : Byte) : State := { s with outB := v }

/-- Replaces `inDriven`. -/
def State.setInDriven (s : State) (v : List Byte) : State := { s with inDriven := v }

/-- Replaces `inSamples`. -/
def State.setInSamples (s : State) (v : Nat) : State := { s with inSamples := v }

end Sys2Proof.Machine
end

