-- ==== Sys2Proof/Machine/Ops.lean ====
section
/-!
DEFINITION. The named operations over memory and registers: reads and writes of the three byte spaces,
the program counter's, the immediate latch's and the sequencer's steps, power-on reset and the host's
load. The machine has no exceptions (60_exceptions.md R360 to R362), so there is no operation that
takes one and none that returns from one.
-/

namespace Sys2Proof.Machine

/-! ## Memory -/

/-- The address spaces held as byte memory (20_memory.md R70). -/
inductive Space where
  | rom | prog | gr
  deriving DecidableEq, Repr

/-- How many bytes a space has (R70). -/
def Space.size : Space → Nat
  | .rom => Config.romSize
  | .prog => Config.progSize
  | .gr => Config.grSize

/-- What an unlisted address of a space reads as: the generated table's byte (10_state.md R32), the
`NOP` fill (20_memory.md R73, log entry 3), the model's value for `GR` (log entry 2). -/
def Space.fill : Space → Nat → Byte
  | .rom, a => romByteAt (BitVec.ofNat 14 a)
  | .prog, _ => Config.progFill
  | .gr, _ => Config.grFill

/-- The byte listed at an address. -/
def Mem.find : Mem → Nat → Option Byte
  | [], _ => none
  | (b, v) :: m, a => if b = a then some v else Mem.find m a

/-- Reads one byte of a space. -/
def Mem.read (sp : Space) (m : Mem) (a : Nat) : Byte := (Mem.find m a).getD (sp.fill a)

/-- Lists a byte at its place in address order. -/
def Mem.insert : Mem → Nat → Byte → Mem
  | [], a, v => [(a, v)]
  | (b, u) :: m, a, v =>
    if a < b then (a, v) :: (b, u) :: m
    else if a = b then (a, v) :: m
    else (b, u) :: Mem.insert m a v

/-- Unlists an address. -/
def Mem.erase : Mem → Nat → Mem
  | [], _ => []
  | (b, u) :: m, a => if a = b then Mem.erase m a else (b, u) :: Mem.erase m a

/-- Writes one byte of a space and keeps the canonical form: writing what an unlisted address reads as
unlists it. -/
def Mem.write (sp : Space) (m : Mem) (a : Nat) (v : Byte) : Mem :=
  if v = sp.fill a then Mem.erase m a else Mem.insert m a v

/-- The canonical form from address `lo` on: addresses strictly rising and within the space, no byte
equal to what the unlisted address reads as. -/
def Mem.wfFrom (sp : Space) (lo : Nat) : Mem → Bool
  | [] => true
  | (a, v) :: m =>
    decide (lo ≤ a) && decide (a < sp.size) && decide (v ≠ sp.fill a) && Mem.wfFrom sp (a + 1) m

/-- The canonical form of a space's memory. -/
def Mem.wf (sp : Space) (m : Mem) : Bool := Mem.wfFrom sp 0 m

/-- `PROG[a]` (00_scope.md R12). Every 16-bit address exists (20_memory.md R75). -/
def State.progByte (s : State) (a : Addr) : Byte := Mem.read .prog s.prog a.toNat

/-- `GR[i]` (00_scope.md R12). Every 8-bit index exists (10_state.md R48). -/
def State.grByte (s : State) (i : Byte) : Byte := Mem.read .gr s.gr i.toNat

/-- `GR[i] <- v`. -/
def State.setGrByte (s : State) (i : Byte) (v : Byte) : State :=
  s.setGr (Mem.write .gr s.gr i.toNat v)

/-- `ROM[o][f][s]` of this machine (20_memory.md R71). -/
def State.romWord (s : State) (opcode : Byte) (f : FlagState) (step : BitVec 4) : Byte :=
  Mem.read .rom s.rom (romAddr opcode f step).toNat

/-! ## Program counter, immediate latch and temporary -/

/-- `PC <- PC + 1`, modulo 65536 with the carry into `PC_H` (40_microstep.md R168, 10_state.md R45). -/
def pcInc (s : State) : State := s.setPc (s.pc + 1)

/-- `PC <- PC + 1`, then `IMM` latches the byte the new `PC` points at (40_microstep.md R163). `b` is
that byte: an instruction's meaning passes the operand it was decoded with (log entry 14). -/
def latchImm (b : Byte) (s : State) : State := (pcInc s).setImm b

/-- Transfer 14, `IMM_FETCH` (R163). -/
def immFetch (s : State) : State := latchImm (s.progByte (s.pc + 1)) s

/-- Transfer 11, `TMP <- IMM` (R164). -/
def immToTmp (s : State) : State := s.setTmp s.imm

/-- Transfer 12, `PC <- (PC[15:8], TMP)` (R165). -/
def tmpToPcL (s : State) : State := s.setPc (s.pc.extractLsb' 8 8 ++ s.tmp)

/-- Transfer 13, `PC <- (IMM, PC[7:0])` (R166). -/
def immToPcH (s : State) : State := s.setPc (s.imm ++ s.pc.extractLsb' 0 8)

/-! ## The sequencer -/

/-- The reset step: `IR <- PROG[PC]` and `STEP <- 0`, `PC` unchanged (40_microstep.md R170). -/
def resetSequencer (s : State) : State := (s.setIr (s.progByte s.pc)).setStepCtr 0

/-- The closing steps of every instruction but a jump and `HALT`: `PCINC, RESET`. -/
def endInstr (s : State) : State := resetSequencer (pcInc s)

/-! ## The host's operations -/

/-- Power-on reset, which may come at any time: `PC` and `STEP` become 0, `IR` becomes `PROG[0]`,
everything else keeps what it holds (70_reset_and_hazards.md R380, R381). -/
def State.powerOn (s : State) : State :=
  ((s.setPc 0).setIr (s.progByte 0)).setStepCtr 0

/-- Stores bytes into program memory from an address on, as the host's load does. Addresses wrap, so
that of more than 65536 bytes the later ones overwrite the earlier, which the spec leaves open (DESIGN
CHOICE, unsafe, log entry 19). -/
def State.placeBytes (s : State) (a : Addr) : List Byte → State
  | [] => s
  | b :: rest => State.placeBytes (s.setProg (Mem.write .prog s.prog a.toNat b)) (a + 1) rest

/-- The host loads an image at address 0, every other program byte the `NOP` fill (20_memory.md R73),
and applies power-on reset (R385). An image of more than 65536 bytes wraps and overwrites from address
0 on, which the spec leaves open (DESIGN CHOICE, unsafe, log entry 19). -/
def State.loadImage (s : State) (image : List Byte) : State :=
  ((s.setProg []).placeBytes 0 image).powerOn

/-- The outside world schedules the bytes it will drive at the coming samples of `IN`. -/
def State.driveIn (s : State) (values : List Byte) : State := s.setInDriven values

end Sys2Proof.Machine
end

