-- ==== Sys2Proof/Machine/Flags.lean ====
section
/-!
DEFINITION. The flag state and the ALU's results and flags (40_microstep.md section 4).
-/

namespace Sys2Proof.Machine

/-- `f = 2*C + Z`, the row the flags select (10_state.md R40). -/
def State.flagState (s : State) : FlagState := BitVec.ofBool s.flagC ++ BitVec.ofBool s.flagZ

/-- The 9-bit sum `ADD` is read from (R175). -/
def addSum (w x : Byte) : BitVec 9 := w.setWidth 9 + x.setWidth 9

/-- The 9-bit sum `SUB` is read from: `W + NOT X + 1` (R176). PRESUMED carry convention, 93 G1, log
entry 11. -/
def subSum (w x : Byte) : BitVec 9 := w.setWidth 9 + (~~~x).setWidth 9 + 1

/-- The 9-bit sum `NEG` is read from: `NOT X + 1` (R177). PRESUMED carry convention, 93 G1, log
entry 11. -/
def negSum (x : Byte) : BitVec 9 := (~~~x).setWidth 9 + 1

/-- The low byte of a 9-bit sum and its carry-out. -/
def sumResult (s : BitVec 9) : Byte × Bool := (s.setWidth 8, s.getLsbD 8)

/-- `alu(op, W, X)`: the result and the carry (R175 to R181). `NOP` stands beside no transfer that
writes `W` (R150, R182), so its line is reached by no micro-step. -/
def aluResult (op : AluOp) (w x : Byte) : Byte × Bool :=
  match op with
  | .add => sumResult (addSum w x)
  | .sub => sumResult (subSum w x)
  | .neg => sumResult (negSum x)
  | .nop => (w, false)
  | .and => (w &&& x, false)
  | .or => (w ||| x, false)
  | .xor => (w ^^^ x, false)
  | .load => (x, false)

/-- Writes an ALU result: `W <- r`, `C <- c`, `Z <- (r = 0)` (R161, R162). -/
def State.writeAlu (s : State) (result : Byte × Bool) : State :=
  ((s.setW result.1).setFlagC result.2).setFlagZ (result.1 == 0)

end Sys2Proof.Machine
end

