-- ==== Sys2Proof/Machine/Operands.lean ====
section
/-!
DEFINITION. The operand forms: what an operand register reads, where the accumulator is written to,
and the micro-steps over them (40_microstep.md R161, R169).
-/

namespace Sys2Proof.Machine

/-- The value on the input port at the next sample: what the host has scheduled, else a free value
(20_memory.md R78, log entry 4). -/
def State.inValue (s : State) : Byte :=
  match s.inDriven with
  | v :: _ => v
  | [] => Config.inPort s.inSamples

/-- One sample of the input port has been taken: the next one may differ (93 I2). -/
def State.sampleIn (s : State) : State :=
  (s.setInDriven s.inDriven.tail).setInSamples (s.inSamples + 1)

/-- The operand `X` of transfers 1 to 5 (R161); `REG_IMM` and `REG_SP` are views of one file
(10_state.md R48). -/
def operandValue (src : Source) (s : State) : Byte :=
  match src with
  | .sp => s.sp
  | .regImm => s.grByte s.imm
  | .regSp => s.grByte s.sp
  | .imm => s.imm
  | .inPort => s.inValue

/-- What reading an operand does besides: only `IN` is a draw, one per read (20_memory.md R78). -/
def operandRead (src : Source) (s : State) : State :=
  match src with
  | .sp | .regImm | .regSp | .imm => s
  | .inPort => s.sampleIn

/-- Transfers 1 to 5: `W` and both flags through the ALU (R161). -/
def aluToW (op : AluOp) (src : Source) (s : State) : State :=
  (operandRead src s).writeAlu (aluResult op s.w (operandValue src s))

/-- Transfers 6 to 10: the accumulator is copied out (R169). -/
def moveW (dst : Dest) (s : State) : State :=
  match dst with
  | .sp => s.setSp s.w
  | .regImm => s.setGrByte s.imm s.w
  | .regSp => s.setGrByte s.sp s.w
  | .outA => s.setOutA s.w
  | .outB => s.setOutB s.w

end Sys2Proof.Machine
end

