-- ==== Sys2Proof/Machine/Alu.lean ====
section
/-!
DEFINITION. The 53 ALU instructions, opcodes 0x00 to 0x34 (41_alu.md). Family rule R200: fetch the
operand byte where the operand is `IMM` or `REG_IMM`, operate on `W`, write `W` back in the writeback
forms, advance `PC`, reset the sequencer. None raises an exception (60_exceptions.md R360).
-/

namespace Sys2Proof.Machine

/-! ## `WADD` (`ADD`, 40_microstep.md R175) -/

/-- `WADD SP`, opcode 0x00 (R201). -/
def execWaddSp (s : State) : Host.Outcome State Fault Refusal :=
  .next (endInstr (aluToW .add .sp s))

/-- `WADD_WB SP`, opcode 0x01 (R202). -/
def execWaddWbSp (s : State) : Host.Outcome State Fault Refusal :=
  .next (endInstr (moveW .sp (aluToW .add .sp s)))

/-- `WADD REG_IMM`, opcode 0x02 (R203). -/
def execWaddRegImm (imm8 : Byte) (s : State) : Host.Outcome State Fault Refusal :=
  .next (endInstr (aluToW .add .regImm (latchImm imm8 s)))

/-- `WADD_WB REG_IMM`, opcode 0x03 (R204). -/
def execWaddWbRegImm (imm8 : Byte) (s : State) : Host.Outcome State Fault Refusal :=
  .next (endInstr (moveW .regImm (aluToW .add .regImm (latchImm imm8 s))))

/-- `WADD REG_SP`, opcode 0x04 (R205). -/
def execWaddRegSp (s : State) : Host.Outcome State Fault Refusal :=
  .next (endInstr (aluToW .add .regSp s))

/-- `WADD_WB REG_SP`, opcode 0x05 (R206). -/
def execWaddWbRegSp (s : State) : Host.Outcome State Fault Refusal :=
  .next (endInstr (moveW .regSp (aluToW .add .regSp s)))

/-- `WADD IMM`, opcode 0x06 (R207). -/
def execWaddImm (imm8 : Byte) (s : State) : Host.Outcome State Fault Refusal :=
  .next (endInstr (aluToW .add .imm (latchImm imm8 s)))

/-- `WADD IN`, opcode 0x07 (R208). -/
def execWaddIn (s : State) : Host.Outcome State Fault Refusal :=
  .next (endInstr (aluToW .add .inPort s))

/-! ## `WSUB` (`SUB`, 40_microstep.md R176) -/

/-- `WSUB SP`, opcode 0x08 (R209). -/
def execWsubSp (s : State) : Host.Outcome State Fault Refusal :=
  .next (endInstr (aluToW .sub .sp s))

/-- `WSUB_WB SP`, opcode 0x09 (R210). -/
def execWsubWbSp (s : State) : Host.Outcome State Fault Refusal :=
  .next (endInstr (moveW .sp (aluToW .sub .sp s)))

/-- `WSUB REG_IMM`, opcode 0x0A (R211). -/
def execWsubRegImm (imm8 : Byte) (s : State) : Host.Outcome State Fault Refusal :=
  .next (endInstr (aluToW .sub .regImm (latchImm imm8 s)))

/-- `WSUB_WB REG_IMM`, opcode 0x0B (R212). -/
def execWsubWbRegImm (imm8 : Byte) (s : State) : Host.Outcome State Fault Refusal :=
  .next (endInstr (moveW .regImm (aluToW .sub .regImm (latchImm imm8 s))))

/-- `WSUB REG_SP`, opcode 0x0C (R213). -/
def execWsubRegSp (s : State) : Host.Outcome State Fault Refusal :=
  .next (endInstr (aluToW .sub .regSp s))

/-- `WSUB_WB REG_SP`, opcode 0x0D (R214). -/
def execWsubWbRegSp (s : State) : Host.Outcome State Fault Refusal :=
  .next (endInstr (moveW .regSp (aluToW .sub .regSp s)))

/-- `WSUB IMM`, opcode 0x0E (R215). -/
def execWsubImm (imm8 : Byte) (s : State) : Host.Outcome State Fault Refusal :=
  .next (endInstr (aluToW .sub .imm (latchImm imm8 s)))

/-- `WSUB IN`, opcode 0x0F (R216). -/
def execWsubIn (s : State) : Host.Outcome State Fault Refusal :=
  .next (endInstr (aluToW .sub .inPort s))

/-! ## `WNEG` (`NEG`, 40_microstep.md R177) -/

/-- `WNEG SP`, opcode 0x10 (R217). -/
def execWnegSp (s : State) : Host.Outcome State Fault Refusal :=
  .next (endInstr (aluToW .neg .sp s))

/-- `WNEG_WB SP`, opcode 0x11 (R218). -/
def execWnegWbSp (s : State) : Host.Outcome State Fault Refusal :=
  .next (endInstr (moveW .sp (aluToW .neg .sp s)))

/-- `WNEG REG_IMM`, opcode 0x12 (R219). -/
def execWnegRegImm (imm8 : Byte) (s : State) : Host.Outcome State Fault Refusal :=
  .next (endInstr (aluToW .neg .regImm (latchImm imm8 s)))

/-- `WNEG_WB REG_IMM`, opcode 0x13 (R220). -/
def execWnegWbRegImm (imm8 : Byte) (s : State) : Host.Outcome State Fault Refusal :=
  .next (endInstr (moveW .regImm (aluToW .neg .regImm (latchImm imm8 s))))

/-- `WNEG REG_SP`, opcode 0x14 (R221). -/
def execWnegRegSp (s : State) : Host.Outcome State Fault Refusal :=
  .next (endInstr (aluToW .neg .regSp s))

/-- `WNEG_WB REG_SP`, opcode 0x15 (R222). -/
def execWnegWbRegSp (s : State) : Host.Outcome State Fault Refusal :=
  .next (endInstr (moveW .regSp (aluToW .neg .regSp s)))

/-- `WNEG IMM`, opcode 0x16 (R223). -/
def execWnegImm (imm8 : Byte) (s : State) : Host.Outcome State Fault Refusal :=
  .next (endInstr (aluToW .neg .imm (latchImm imm8 s)))

/-- `WNEG IN`, opcode 0x17 (R224). -/
def execWnegIn (s : State) : Host.Outcome State Fault Refusal :=
  .next (endInstr (aluToW .neg .inPort s))

/-! ## `WAND` (`AND`, 40_microstep.md R178) -/

/-- `WAND SP`, opcode 0x18 (R225). -/
def execWandSp (s : State) : Host.Outcome State Fault Refusal :=
  .next (endInstr (aluToW .and .sp s))

/-- `WAND_WB SP`, opcode 0x19 (R226). -/
def execWandWbSp (s : State) : Host.Outcome State Fault Refusal :=
  .next (endInstr (moveW .sp (aluToW .and .sp s)))

/-- `WAND REG_IMM`, opcode 0x1A (R227). -/
def execWandRegImm (imm8 : Byte) (s : State) : Host.Outcome State Fault Refusal :=
  .next (endInstr (aluToW .and .regImm (latchImm imm8 s)))

/-- `WAND_WB REG_IMM`, opcode 0x1B (R228). -/
def execWandWbRegImm (imm8 : Byte) (s : State) : Host.Outcome State Fault Refusal :=
  .next (endInstr (moveW .regImm (aluToW .and .regImm (latchImm imm8 s))))

/-- `WAND REG_SP`, opcode 0x1C (R229). -/
def execWandRegSp (s : State) : Host.Outcome State Fault Refusal :=
  .next (endInstr (aluToW .and .regSp s))

/-- `WAND_WB REG_SP`, opcode 0x1D (R230). -/
def execWandWbRegSp (s : State) : Host.Outcome State Fault Refusal :=
  .next (endInstr (moveW .regSp (aluToW .and .regSp s)))

/-- `WAND IMM`, opcode 0x1E (R231). -/
def execWandImm (imm8 : Byte) (s : State) : Host.Outcome State Fault Refusal :=
  .next (endInstr (aluToW .and .imm (latchImm imm8 s)))

/-- `WAND IN`, opcode 0x1F (R232). -/
def execWandIn (s : State) : Host.Outcome State Fault Refusal :=
  .next (endInstr (aluToW .and .inPort s))

/-! ## `WOR` (`OR`, 40_microstep.md R179) -/

/-- `WOR SP`, opcode 0x20 (R233). -/
def execWorSp (s : State) : Host.Outcome State Fault Refusal :=
  .next (endInstr (aluToW .or .sp s))

/-- `WOR_WB SP`, opcode 0x21 (R234). -/
def execWorWbSp (s : State) : Host.Outcome State Fault Refusal :=
  .next (endInstr (moveW .sp (aluToW .or .sp s)))

/-- `WOR REG_IMM`, opcode 0x22 (R235). -/
def execWorRegImm (imm8 : Byte) (s : State) : Host.Outcome State Fault Refusal :=
  .next (endInstr (aluToW .or .regImm (latchImm imm8 s)))

/-- `WOR_WB REG_IMM`, opcode 0x23 (R236). -/
def execWorWbRegImm (imm8 : Byte) (s : State) : Host.Outcome State Fault Refusal :=
  .next (endInstr (moveW .regImm (aluToW .or .regImm (latchImm imm8 s))))

/-- `WOR REG_SP`, opcode 0x24 (R237). -/
def execWorRegSp (s : State) : Host.Outcome State Fault Refusal :=
  .next (endInstr (aluToW .or .regSp s))

/-- `WOR_WB REG_SP`, opcode 0x25 (R238). -/
def execWorWbRegSp (s : State) : Host.Outcome State Fault Refusal :=
  .next (endInstr (moveW .regSp (aluToW .or .regSp s)))

/-- `WOR IMM`, opcode 0x26 (R239). -/
def execWorImm (imm8 : Byte) (s : State) : Host.Outcome State Fault Refusal :=
  .next (endInstr (aluToW .or .imm (latchImm imm8 s)))

/-- `WOR IN`, opcode 0x27 (R240). -/
def execWorIn (s : State) : Host.Outcome State Fault Refusal :=
  .next (endInstr (aluToW .or .inPort s))

/-! ## `WXOR` (`XOR`, 40_microstep.md R180) -/

/-- `WXOR SP`, opcode 0x28 (R241). -/
def execWxorSp (s : State) : Host.Outcome State Fault Refusal :=
  .next (endInstr (aluToW .xor .sp s))

/-- `WXOR_WB SP`, opcode 0x29 (R242). -/
def execWxorWbSp (s : State) : Host.Outcome State Fault Refusal :=
  .next (endInstr (moveW .sp (aluToW .xor .sp s)))

/-- `WXOR REG_IMM`, opcode 0x2A (R243). -/
def execWxorRegImm (imm8 : Byte) (s : State) : Host.Outcome State Fault Refusal :=
  .next (endInstr (aluToW .xor .regImm (latchImm imm8 s)))

/-- `WXOR_WB REG_IMM`, opcode 0x2B (R244). -/
def execWxorWbRegImm (imm8 : Byte) (s : State) : Host.Outcome State Fault Refusal :=
  .next (endInstr (moveW .regImm (aluToW .xor .regImm (latchImm imm8 s))))

/-- `WXOR REG_SP`, opcode 0x2C (R245). -/
def execWxorRegSp (s : State) : Host.Outcome State Fault Refusal :=
  .next (endInstr (aluToW .xor .regSp s))

/-- `WXOR_WB REG_SP`, opcode 0x2D (R246). -/
def execWxorWbRegSp (s : State) : Host.Outcome State Fault Refusal :=
  .next (endInstr (moveW .regSp (aluToW .xor .regSp s)))

/-- `WXOR IMM`, opcode 0x2E (R247). -/
def execWxorImm (imm8 : Byte) (s : State) : Host.Outcome State Fault Refusal :=
  .next (endInstr (aluToW .xor .imm (latchImm imm8 s)))

/-- `WXOR IN`, opcode 0x2F (R248). -/
def execWxorIn (s : State) : Host.Outcome State Fault Refusal :=
  .next (endInstr (aluToW .xor .inPort s))

/-! ## `WLOAD` (`LOAD`, 40_microstep.md R181) -/

/-- `WLOAD SP`, opcode 0x30 (R249). -/
def execWloadSp (s : State) : Host.Outcome State Fault Refusal :=
  .next (endInstr (aluToW .load .sp s))

/-- `WLOAD REG_IMM`, opcode 0x31 (R250). -/
def execWloadRegImm (imm8 : Byte) (s : State) : Host.Outcome State Fault Refusal :=
  .next (endInstr (aluToW .load .regImm (latchImm imm8 s)))

/-- `WLOAD REG_SP`, opcode 0x32 (R251). -/
def execWloadRegSp (s : State) : Host.Outcome State Fault Refusal :=
  .next (endInstr (aluToW .load .regSp s))

/-- `WLOAD IMM`, opcode 0x33 (R252). -/
def execWloadImm (imm8 : Byte) (s : State) : Host.Outcome State Fault Refusal :=
  .next (endInstr (aluToW .load .imm (latchImm imm8 s)))

/-- `WLOAD IN`, opcode 0x34 (R253). -/
def execWloadIn (s : State) : Host.Outcome State Fault Refusal :=
  .next (endInstr (aluToW .load .inPort s))

end Sys2Proof.Machine
end

