-- ==== Sys2Proof/Machine/Jump.lean ====
section
/-!
DEFINITION. The 6 jump instructions, opcodes 0x3A to 0x3F (43_jump.md). Family rule R280: both operand
bytes are fetched whether or not the jump is taken, so `TMP` ends with the target's low byte and `IMM`
with its high byte; the taken path writes `PC_L` then `PC_H`, the other advances `PC` past the high
byte; both end with the reset step. The condition is the flags the instruction starts with, which no
jump step writes (R287).
-/

namespace Sys2Proof.Machine

/-- The common prefix `FETCH, IMM->TMP, FETCH` (R280). -/
def fetchTarget (target : Addr) (s : State) : State :=
  latchImm (targetHi target) (immToTmp (latchImm (targetLo target) s))

/-- The taken path `TMP->PC_L, IMM->PC_H` (R280). -/
def jumpTaken (s : State) : State := immToPcH (tmpToPcL s)

/-- A jump whose condition is `taken`. -/
def jumpIf (taken : Bool) (target : Addr) (s : State) : State :=
  let s := fetchTarget target s
  resetSequencer (if taken then jumpTaken s else pcInc s)

/-- `JMP ADDR`, opcode 0x3A: taken always (R281). -/
def execJmp (target : Addr) (s : State) : Host.Outcome State Fault Refusal :=
  .next (jumpIf true target s)

/-- `JZ ADDR`, opcode 0x3B: taken when `Z = 1` (R282). -/
def execJz (target : Addr) (s : State) : Host.Outcome State Fault Refusal :=
  .next (jumpIf s.flagZ target s)

/-- `JNZ ADDR`, opcode 0x3C: taken when `Z = 0` (R283). -/
def execJnz (target : Addr) (s : State) : Host.Outcome State Fault Refusal :=
  .next (jumpIf (!s.flagZ) target s)

/-- `JC ADDR`, opcode 0x3D: taken when `C = 1` (R284). -/
def execJc (target : Addr) (s : State) : Host.Outcome State Fault Refusal :=
  .next (jumpIf s.flagC target s)

/-- `JNC ADDR`, opcode 0x3E: taken when `C = 0` (R285). -/
def execJnc (target : Addr) (s : State) : Host.Outcome State Fault Refusal :=
  .next (jumpIf (!s.flagC) target s)

/-- `JZC ADDR`, opcode 0x3F: taken when `C = 1` and `Z = 1` (R286). -/
def execJzc (target : Addr) (s : State) : Host.Outcome State Fault Refusal :=
  .next (jumpIf (s.flagC && s.flagZ) target s)

end Sys2Proof.Machine
end

