-- ==== Sys2Proof/Machine/NopHalt.lean ====
section
/-!
DEFINITION. `NOP`, `HALT` and the filler opcodes (44_nop_halt.md).
-/

namespace Sys2Proof.Machine

/-- `NOP`, opcode 0x40: advance `PC`, reset the sequencer (R300). -/
def execNop (s : State) : Host.Outcome State Fault Refusal :=
  .next (endInstr s)

/-- `HALT`, opcode 0x41: the reset step alone, `PC` not advanced, so the sequencer fetches the same
opcode again: a deliberate infinite stall, not an error (R301). -/
def execHalt (s : State) : Host.Outcome State Fault Refusal :=
  .next (resetSequencer s)

/-- A filler opcode, 0x42 to 0xFF: exactly the effect of `NOP`, whichever opcode it is (R302). -/
def execFiller (_code : Byte) (s : State) : Host.Outcome State Fault Refusal :=
  .next (endInstr s)

end Sys2Proof.Machine
end

