-- ==== Sys2Proof/Machine/Store.lean ====
section
/-!
DEFINITION. The 5 store instructions, opcodes 0x35 to 0x39 (42_store.md). Family rule R270: fetch the
index byte for `REG_IMM`, copy `W` out, advance `PC`, reset the sequencer. No flags change.
-/

namespace Sys2Proof.Machine

/-- `WSTORE SP`, opcode 0x35 (R271). -/
def execWstoreSp (s : State) : Host.Outcome State Fault Refusal :=
  .next (endInstr (moveW .sp s))

/-- `WSTORE REG_IMM`, opcode 0x36 (R272). -/
def execWstoreRegImm (imm8 : Byte) (s : State) : Host.Outcome State Fault Refusal :=
  .next (endInstr (moveW .regImm (latchImm imm8 s)))

/-- `WSTORE REG_SP`, opcode 0x37 (R273). -/
def execWstoreRegSp (s : State) : Host.Outcome State Fault Refusal :=
  .next (endInstr (moveW .regSp s))

/-- `WSTORE OUT_A`, opcode 0x38 (R274). -/
def execWstoreOutA (s : State) : Host.Outcome State Fault Refusal :=
  .next (endInstr (moveW .outA s))

/-- `WSTORE OUT_B`, opcode 0x39 (R275). -/
def execWstoreOutB (s : State) : Host.Outcome State Fault Refusal :=
  .next (endInstr (moveW .outB s))

end Sys2Proof.Machine
end

