-- ==== Sys2Proof/Machine/Dispatch.lean ====
section
/-!
DEFINITION. One arm per instruction, each one direct call of its meaning.
-/

namespace Sys2Proof.Machine

def exec (i : Instr) (s : State) : Host.Outcome State Fault Refusal :=
  match i with
  | .waddSp => Sys2Proof.Machine.execWaddSp s
  | .waddWbSp => Sys2Proof.Machine.execWaddWbSp s
  | .waddRegImm imm8 => Sys2Proof.Machine.execWaddRegImm imm8 s
  | .waddWbRegImm imm8 => Sys2Proof.Machine.execWaddWbRegImm imm8 s
  | .waddRegSp => Sys2Proof.Machine.execWaddRegSp s
  | .waddWbRegSp => Sys2Proof.Machine.execWaddWbRegSp s
  | .waddImm imm8 => Sys2Proof.Machine.execWaddImm imm8 s
  | .waddIn => Sys2Proof.Machine.execWaddIn s
  | .wsubSp => Sys2Proof.Machine.execWsubSp s
  | .wsubWbSp => Sys2Proof.Machine.execWsubWbSp s
  | .wsubRegImm imm8 => Sys2Proof.Machine.execWsubRegImm imm8 s
  | .wsubWbRegImm imm8 => Sys2Proof.Machine.execWsubWbRegImm imm8 s
  | .wsubRegSp => Sys2Proof.Machine.execWsubRegSp s
  | .wsubWbRegSp => Sys2Proof.Machine.execWsubWbRegSp s
  | .wsubImm imm8 => Sys2Proof.Machine.execWsubImm imm8 s
  | .wsubIn => Sys2Proof.Machine.execWsubIn s
  | .wnegSp => Sys2Proof.Machine.execWnegSp s
  | .wnegWbSp => Sys2Proof.Machine.execWnegWbSp s
  | .wnegRegImm imm8 => Sys2Proof.Machine.execWnegRegImm imm8 s
  | .wnegWbRegImm imm8 => Sys2Proof.Machine.execWnegWbRegImm imm8 s
  | .wnegRegSp => Sys2Proof.Machine.execWnegRegSp s
  | .wnegWbRegSp => Sys2Proof.Machine.execWnegWbRegSp s
  | .wnegImm imm8 => Sys2Proof.Machine.execWnegImm imm8 s
  | .wnegIn => Sys2Proof.Machine.execWnegIn s
  | .wandSp => Sys2Proof.Machine.execWandSp s
  | .wandWbSp => Sys2Proof.Machine.execWandWbSp s
  | .wandRegImm imm8 => Sys2Proof.Machine.execWandRegImm imm8 s
  | .wandWbRegImm imm8 => Sys2Proof.Machine.execWandWbRegImm imm8 s
  | .wandRegSp => Sys2Proof.Machine.execWandRegSp s
  | .wandWbRegSp => Sys2Proof.Machine.execWandWbRegSp s
  | .wandImm imm8 => Sys2Proof.Machine.execWandImm imm8 s
  | .wandIn => Sys2Proof.Machine.execWandIn s
  | .worSp => Sys2Proof.Machine.execWorSp s
  | .worWbSp => Sys2Proof.Machine.execWorWbSp s
  | .worRegImm imm8 => Sys2Proof.Machine.execWorRegImm imm8 s
  | .worWbRegImm imm8 => Sys2Proof.Machine.execWorWbRegImm imm8 s
  | .worRegSp => Sys2Proof.Machine.execWorRegSp s
  | .worWbRegSp => Sys2Proof.Machine.execWorWbRegSp s
  | .worImm imm8 => Sys2Proof.Machine.execWorImm imm8 s
  | .worIn => Sys2Proof.Machine.execWorIn s
  | .wxorSp => Sys2Proof.Machine.execWxorSp s
  | .wxorWbSp => Sys2Proof.Machine.execWxorWbSp s
  | .wxorRegImm imm8 => Sys2Proof.Machine.execWxorRegImm imm8 s
  | .wxorWbRegImm imm8 => Sys2Proof.Machine.execWxorWbRegImm imm8 s
  | .wxorRegSp => Sys2Proof.Machine.execWxorRegSp s
  | .wxorWbRegSp => Sys2Proof.Machine.execWxorWbRegSp s
  | .wxorImm imm8 => Sys2Proof.Machine.execWxorImm imm8 s
  | .wxorIn => Sys2Proof.Machine.execWxorIn s
  | .wloadSp => Sys2Proof.Machine.execWloadSp s
  | .wloadRegImm imm8 => Sys2Proof.Machine.execWloadRegImm imm8 s
  | .wloadRegSp => Sys2Proof.Machine.execWloadRegSp s
  | .wloadImm imm8 => Sys2Proof.Machine.execWloadImm imm8 s
  | .wloadIn => Sys2Proof.Machine.execWloadIn s
  | .wstoreSp => Sys2Proof.Machine.execWstoreSp s
  | .wstoreRegImm imm8 => Sys2Proof.Machine.execWstoreRegImm imm8 s
  | .wstoreRegSp => Sys2Proof.Machine.execWstoreRegSp s
  | .wstoreOutA => Sys2Proof.Machine.execWstoreOutA s
  | .wstoreOutB => Sys2Proof.Machine.execWstoreOutB s
  | .jmp target => Sys2Proof.Machine.execJmp target s
  | .jz target => Sys2Proof.Machine.execJz target s
  | .jnz target => Sys2Proof.Machine.execJnz target s
  | .jc target => Sys2Proof.Machine.execJc target s
  | .jnc target => Sys2Proof.Machine.execJnc target s
  | .jzc target => Sys2Proof.Machine.execJzc target s
  | .nop => Sys2Proof.Machine.execNop s
  | .halt => Sys2Proof.Machine.execHalt s
  | .filler code => Sys2Proof.Machine.execFiller code s

end Sys2Proof.Machine
end

