-- ==== Sys2Proof/Machine/Sequencer.lean ====
section
/-!
DEFINITION. The sequencer: one clock cycle executes one micro-step, read from the control ROM at the
opcode in `IR`, the live flag state and `STEP` (40_microstep.md section 3). The meanings of the
instructions (Machine/Alu.lean and its fellows) are written from the instruction rules and not from
this file; that the two agree is a statement of its own.
-/

namespace Sys2Proof.Machine

/-- The control word of this cycle: `ROM[IR][f][STEP]` with the flags as they are now (R170). -/
def State.controlWord (s : State) : Byte := s.romWord s.ir s.flagState s.stepCtr

/-- What an ordinary control word's transfer does with its ALU operation (R160 to R169). -/
def execTransfer (transfer : Transfer) (op : AluOp) (s : State) : State :=
  match transfer with
  | .noTransfer => s
  | .spToW => aluToW op .sp s
  | .regImmToW => aluToW op .regImm s
  | .regSpToW => aluToW op .regSp s
  | .immToW => aluToW op .imm s
  | .inToW => aluToW op .inPort s
  | .wToSp => moveW .sp s
  | .wToRegImm => moveW .regImm s
  | .wToRegSp => moveW .regSp s
  | .wToOutA => moveW .outA s
  | .wToOutB => moveW .outB s
  | .immToTmp => immToTmp s
  | .tmpToPcL => tmpToPcL s
  | .immToPcH => immToPcH s
  | .immFetch => immFetch s
  | .pcInc => pcInc s

/-- One micro-step: a reset step fetches the next opcode, any other executes its transfer and moves
`STEP` on, modulo 16 (R170). -/
def microStep (m : MicroStep) (s : State) : State :=
  if m.reset then resetSequencer s
  else (execTransfer m.transfer m.alu s).setStepCtr (s.stepCtr + 1)

/-- One clock cycle (R170). An illegal control word, which the generated ROM does not hold, is a fault
(30_encoding.md R110, 60_exceptions.md R365). -/
def cycle (s : State) : Host.Outcome State Fault Refusal :=
  match decodeWord s.controlWord with
  | some m => .next (microStep m s)
  | none => .fault (.illegalControlWord s.controlWord)

/-- `n` clock cycles, stopping at the first fault. -/
def cycles : Nat → State → Host.Outcome State Fault Refusal
  | 0, s => .next s
  | n + 1, s =>
    match cycle s with
    | .next t => cycles n t
    | .fault r => .fault r
    | .refused r => .refused r

/-- Cycles up to and including the next reset step, and at most `fuel` of them. -/
def runToReset : Nat → State → Host.Outcome State Fault Refusal
  | 0, s => .next s
  | fuel + 1, s =>
    match cycle s with
    | .next t => if s.controlWord = encodeStep microReset then .next t else runToReset fuel t
    | .fault r => .fault r
    | .refused r => .refused r

end Sys2Proof.Machine

namespace Sys2Proof

/-- How many clock cycles an instruction takes, the closing reset step counted; `HALT` repeats its one
cycle without end (70_reset_and_hazards.md R395, 30_encoding.md R116). -/
def Instr.cycles : Instr → Nat
  | .halt => 1
  | .nop | .filler _ => 2
  | .waddSp | .waddRegSp | .waddIn | .wsubSp | .wsubRegSp | .wsubIn | .wnegSp | .wnegRegSp |
    .wnegIn | .wandSp | .wandRegSp | .wandIn | .worSp | .worRegSp | .worIn | .wxorSp |
    .wxorRegSp | .wxorIn | .wloadSp | .wloadRegSp | .wloadIn | .wstoreSp | .wstoreRegSp |
    .wstoreOutA | .wstoreOutB => 3
  | .waddWbSp | .waddRegImm _ | .waddWbRegSp | .waddImm _ | .wsubWbSp | .wsubRegImm _ |
    .wsubWbRegSp | .wsubImm _ | .wnegWbSp | .wnegRegImm _ | .wnegWbRegSp | .wnegImm _ |
    .wandWbSp | .wandRegImm _ | .wandWbRegSp | .wandImm _ | .worWbSp | .worRegImm _ |
    .worWbRegSp | .worImm _ | .wxorWbSp | .wxorRegImm _ | .wxorWbRegSp | .wxorImm _ |
    .wloadRegImm _ | .wloadImm _ | .wstoreRegImm _ => 4
  | .waddWbRegImm _ | .wsubWbRegImm _ | .wnegWbRegImm _ | .wandWbRegImm _ | .worWbRegImm _ |
    .wxorWbRegImm _ => 5
  | .jmp _ | .jz _ | .jnz _ | .jc _ | .jnc _ | .jzc _ => 6

end Sys2Proof
end

