-- ==== Sys2Proof/Machine/Fetch.lean ====
section
/-!
DEFINITION. From the fetched bytes to the instruction's meaning, and the host's placing of a word where
the next step fetches.
-/

namespace Sys2Proof.Machine

/-- The bytes of the instruction at hand: the opcode the sequencer latched in `IR`, then the two program
bytes after the opcode's address (30_encoding.md R112; at a boundary `PC` is that address,
70_reset_and_hazards.md R383). -/
def fetchBytes (s : State) : List Byte :=
  [s.ir, s.progByte (s.pc + 1), s.progByte (s.pc + 2)]

/-- Whether a whole instruction is about to run by its rule: `STEP` is 0 and the ROM is the generated
one (`rom` lists no differing cell). -/
def State.atInstruction (s : State) : Bool := s.stepCtr == 0 && s.rom.isEmpty

/-- Decodes the fetched bytes and runs the instruction's meaning. -/
def runFetched (s : State) : Host.Outcome State Fault Refusal :=
  match decode (fetchBytes s) with
  | .ok (i, _) => exec i s
  | .error reason => .refused (.undecodable reason)

/-- Stores the three bytes of a table word at `PC` and latches its opcode in `IR` with `STEP` 0, as the
reset step that fetches it does (40_microstep.md R170); log entry 8. -/
def State.placeWord (s : State) (nbits w : Nat) : State :=
  resetSequencer (s.placeBytes s.pc (wordBytes nbits w))

end Sys2Proof.Machine
end

