-- ==== Sys2Proof/Machine/Step.lean ====
section
/-!
DEFINITION. One step of the machine: one instruction. With the generated ROM and `STEP` at 0 it is the
fetched instruction's meaning; from the middle of an instruction, or with another ROM, it is the
micro-steps up to the next reset step, at most one row of them (log entry 7).
-/

namespace Sys2Proof.Machine

/-- One step. -/
def step (s : State) : Host.Outcome State Fault Refusal :=
  if s.atInstruction then runFetched s else runToReset Config.rowLength s

/-- The state with a table word placed where the next step fetches its instruction. -/
def State.withFetchWord (s : State) (nbits w : Nat) : State := s.placeWord nbits w

end Sys2Proof.Machine
end

