-- ==== Sys2Proof/Machine/Assembler.lean ====
section
/-!
DEFINITION. The assembler's interface: a line already split into its parts becomes bytes
(30_encoding.md R119, 45_table_generator.md R345). Reading text is out of scope (00_scope.md R6).
-/

namespace Sys2Proof

/-- A line of R119: a name, an operand key (`"ADDR"` for a jump, `""` for none) and a value. -/
structure AsmLine where
  name : String
  operand : String
  value : Option Nat
  deriving DecidableEq, Repr

/-- Why a line is refused. -/
inductive AsmError where
  /-- No opcode: the assembler halts rather than emit a partial image (60_exceptions.md R350). -/
  | build (e : BuildError)
  /-- The value is missing, forbidden or too wide for the operand (R119). -/
  | badValue (operand : String)
  deriving DecidableEq, Repr

/-- The value bytes of an operand: one for `IMM` and `REG_IMM`, the little-endian target for `ADDR`,
none otherwise (R119). -/
def asmValueBytes (operand : String) (value : Option Nat) : Except AsmError (List Byte) :=
  if operand = "IMM" ∨ operand = "REG_IMM" then
    match value with
    | some v => if v < 256 then .ok [BitVec.ofNat 8 v] else .error (.badValue operand)
    | none => .error (.badValue operand)
  else if operand = "ADDR" then
    match value with
    | some v =>
      if v < 65536 then .ok [BitVec.ofNat 8 v, BitVec.ofNat 8 (v / 256)]
      else .error (.badValue operand)
    | none => .error (.badValue operand)
  else
    match value with
    | some _ => .error (.badValue operand)
    | none => .ok []

/-- One line to bytes: the opcode, then the value bytes (R119). -/
def assembleLine (line : AsmLine) : Except AsmError (List Byte) :=
  match resolveOpcode line.name line.operand with
  | .error e => .error (.build e)
  | .ok opcode =>
    match asmValueBytes line.operand line.value with
    | .error e => .error e
    | .ok bytes => .ok (opcode :: bytes)

/-- A program to its bytes, all or none; the bytes after it are the `NOP` fill (20_memory.md R73,
45_table_generator.md R345). The spec does not say what becomes of a program longer than the image's
65536 bytes: all its bytes are answered and no size is checked (DESIGN CHOICE, unsafe, log entry
19). -/
def assemble : List AsmLine → Except AsmError (List Byte)
  | [] => .ok []
  | line :: rest =>
    match assembleLine line, assemble rest with
    | .ok bytes, .ok more => .ok (bytes ++ more)
    | .error e, _ => .error e
    | _, .error e => .error e

/-- The operand value an instruction carries, as a line writes it. -/
def Instr.asmValue (i : Instr) : Option Nat :=
  match i.operandBytes with
  | [b] => some b.toNat
  | [lo, hi] => some (lo.toNat + 256 * hi.toNat)
  | _ => none

/-- The line that names an instruction. A filler's reads as `NOP` (45_table_generator.md R342). -/
def Instr.asmLine (i : Instr) : AsmLine :=
  ⟨(describeOpcode i.opcode).1, (describeOpcode i.opcode).2, i.asmValue⟩

end Sys2Proof
end

