-- ==== Sys2Proof/Safety.lean ====
section
/-!
DEFINITION. The conditions statements speak of: instruction boundaries, the sequencer's and the
memories' well-formedness, the end of a run.
-/

namespace Sys2Proof.Machine

/-- The control ROM is the one the initializer generated (70_reset_and_hazards.md R385). -/
abbrev State.GeneratedRom (s : State) : Prop := s.rom = []

/-- The instruction-boundary condition (70_reset_and_hazards.md R383): `STEP` is 0 and `IR` holds the
opcode at `PC`. -/
abbrev State.AtBoundary (s : State) : Prop := s.stepCtr = 0 ∧ s.ir = s.progByte s.pc

/-- Every memory is in its canonical form, with every address inside its space. -/
abbrev State.MemoryWf (s : State) : Prop :=
  Mem.wf .rom s.rom = true ∧ Mem.wf .prog s.prog = true ∧ Mem.wf .gr s.gr = true

/-- The length of the sequence in each row of an opcode, up to and with its closing reset step: the
cycles of the instruction the opcode stands for (45_table_generator.md R332, 30_encoding.md R116). -/
def sequenceLength (opcode : Byte) : Nat :=
  match formOf opcode with
  | .op i => i.cycles
  | .opImm8 mk => (mk 0).cycles
  | .opAddr16 mk => (mk 0).cycles

/-- A run's invariant at every clock cycle with the generated ROM: `STEP` stays inside the sequence of
the opcode in `IR` (70_reset_and_hazards.md R397) and the boundary condition holds whenever `STEP` is
0 (R383). -/
abbrev State.SequencerOk (s : State) : Prop :=
  s.GeneratedRom ∧ s.stepCtr.toNat < sequenceLength s.ir ∧
    (s.stepCtr = 0 → s.ir = s.progByte s.pc)

/-- A run's invariant at every instruction boundary. -/
abbrev State.BoundaryOk (s : State) : Prop := s.GeneratedRom ∧ s.AtBoundary ∧ s.MemoryWf

/-- A program has ended: a cycle begins with `IR = 0x41` and `STEP = 0`
(70_reset_and_hazards.md R392). -/
abbrev State.Ended (s : State) : Prop := s.ir = 0x41 ∧ s.stepCtr = 0

end Sys2Proof.Machine
end

