-- ==== Sys2Proof/Certificates/Slice0/Obligations.lean ====
section
/-!
DEFINITION. The statements for the provers. Each docstring names the rules of spec/ it formalises.
The helper definitions say, in the terms of the instruction rules, what an instruction leaves.
-/

open Sys2Proof Sys2Proof.Machine

namespace Sys2Proof.Stated

/-- The 47 legal control words as 30_encoding.md R109 lists them. -/
def legalWords : List Byte :=
  [0x80, 0x30, 0x36, 0x37, 0x38, 0x39, 0x3A, 0x3B, 0x3C, 0x3D, 0x3E, 0x3F] ++
  [0x01, 0x02, 0x03, 0x04, 0x05, 0x11, 0x12, 0x13, 0x14, 0x15, 0x21, 0x22, 0x23, 0x24, 0x25] ++
  [0x41, 0x42, 0x43, 0x44, 0x45, 0x51, 0x52, 0x53, 0x54, 0x55, 0x61, 0x62, 0x63, 0x64, 0x65] ++
  [0x71, 0x72, 0x73, 0x74, 0x75]

/-- The transfers that have a source and a destination, with their codes, as R105 lists them. -/
def transferPairs : List (Reg × Reg × BitVec 4) :=
  [(.sp, .w, 1), (.regImm, .w, 2), (.regSp, .w, 3), (.imm, .w, 4), (.inPort, .w, 5), (.w, .sp, 6),
   (.w, .regImm, 7), (.w, .regSp, 8), (.w, .outA, 9), (.w, .outB, 10), (.imm, .tmp, 11),
   (.tmp, .pcL, 12), (.imm, .pcH, 13)]

/-- How many steps of a sequence fetch an operand byte. -/
def fetchCount (steps : Steps) : Nat := (steps.filter fun m => m.transfer == .immFetch).length

/-- The catalog's sequence of an opcode in a flag state. -/
def sequenceOf (opcode : Byte) (f : FlagState) : Steps :=
  (fullCatalog.getD opcode.toNat fillerEntry).steps f

/-- Nothing but the fields an instruction of the ALU family may write has changed: the ROM, program
memory, `TMP` and the output latches are as before. -/
def KeepsBesideAlu (s t : State) : Prop :=
  t.rom = s.rom ∧ t.prog = s.prog ∧ t.tmp = s.tmp ∧ t.outA = s.outA ∧ t.outB = s.outB

/-- The input port has been sampled once, or not at all. -/
def Samples (drawn : Bool) (s t : State) : Prop :=
  if drawn then t.inDriven = s.inDriven.tail ∧ t.inSamples = s.inSamples + 1
  else t.inDriven = s.inDriven ∧ t.inSamples = s.inSamples

/-- The instruction has ended `len` bytes on: `PC` is there, `IR` holds the opcode there, `STEP` is 0. -/
def EndsAfter (len : Nat) (s t : State) : Prop :=
  t.pc = s.pc + BitVec.ofNat 16 len ∧ t.ir = s.progByte (s.pc + BitVec.ofNat 16 len) ∧ t.stepCtr = 0

/-- What an ALU instruction leaves: result and flags in `W`, `C`, `Z`, the given `IMM`, `SP` and register
file, the instruction ended `len` bytes on, and everything else as before. -/
def AluLeaves (result : Byte) (carry : Bool) (len : Nat) (imm sp : Byte) (gr : Byte → Byte)
    (drawn : Bool) (s t : State) : Prop :=
  t.w = result ∧ t.flagC = carry ∧ t.flagZ = decide (result = 0) ∧ EndsAfter len s t ∧
    t.imm = imm ∧ t.sp = sp ∧ (∀ i, t.grByte i = gr i) ∧ Samples drawn s t ∧ KeepsBesideAlu s t

/-- The register file with one entry replaced. -/
def grWith (s : State) (i v : Byte) : Byte → Byte := fun j => if j = i then v else s.grByte j

/-- The five forms without writeback of one ALU operation with result `res W X` and carry
`carry W X`: each completes and leaves what its rule gives. -/
def PlainFormsComplete (res : Byte → Byte → Byte) (carry : Byte → Byte → Bool)
    (onSp : Instr) (onRegImm : Byte → Instr) (onRegSp : Instr) (onImm : Byte → Instr)
    (onIn : Instr) : Prop :=
  ∀ (s : State) (b : Byte),
    (∃ t, exec onSp s = .next t ∧
      AluLeaves (res s.w s.sp) (carry s.w s.sp) 1 s.imm s.sp s.grByte false s t) ∧
    (∃ t, exec (onRegImm b) s = .next t ∧
      AluLeaves (res s.w (s.grByte b)) (carry s.w (s.grByte b)) 2 b s.sp s.grByte false s t) ∧
    (∃ t, exec onRegSp s = .next t ∧
      AluLeaves (res s.w (s.grByte s.sp)) (carry s.w (s.grByte s.sp)) 1 s.imm s.sp s.grByte
        false s t) ∧
    (∃ t, exec (onImm b) s = .next t ∧
      AluLeaves (res s.w b) (carry s.w b) 2 b s.sp s.grByte false s t) ∧
    (∃ t, exec onIn s = .next t ∧
      AluLeaves (res s.w s.inValue) (carry s.w s.inValue) 1 s.imm s.sp s.grByte true s t)

/-- The three writeback forms: the result also replaces the operand register. -/
def WritebackFormsComplete (res : Byte → Byte → Byte) (carry : Byte → Byte → Bool)
    (onSp : Instr) (onRegImm : Byte → Instr) (onRegSp : Instr) : Prop :=
  ∀ (s : State) (b : Byte),
    (∃ t, exec onSp s = .next t ∧
      AluLeaves (res s.w s.sp) (carry s.w s.sp) 1 s.imm (res s.w s.sp) s.grByte false s t) ∧
    (∃ t, exec (onRegImm b) s = .next t ∧
      AluLeaves (res s.w (s.grByte b)) (carry s.w (s.grByte b)) 2 b s.sp
        (grWith s b (res s.w (s.grByte b))) false s t) ∧
    (∃ t, exec onRegSp s = .next t ∧
      AluLeaves (res s.w (s.grByte s.sp)) (carry s.w (s.grByte s.sp)) 1 s.imm s.sp
        (grWith s s.sp (res s.w (s.grByte s.sp))) false s t)

/-- What a store leaves: the given `SP`, register file and latches, `W` and the flags as before. -/
def StoreLeaves (len : Nat) (imm sp : Byte) (gr : Byte → Byte) (outA outB : Byte)
    (s t : State) : Prop :=
  EndsAfter len s t ∧ t.imm = imm ∧ t.sp = sp ∧ (∀ i, t.grByte i = gr i) ∧ t.outA = outA ∧
    t.outB = outB ∧ t.w = s.w ∧ t.flagC = s.flagC ∧ t.flagZ = s.flagZ ∧ t.tmp = s.tmp ∧
    t.rom = s.rom ∧ t.prog = s.prog ∧ Samples false s t

/-- What a jump to `target` leaves: `PC` at the target where it is taken and past its three bytes where
not, the target's bytes in `TMP` and `IMM` either way, everything else as before. -/
def JumpLeaves (taken : Prop) (target : Addr) (s t : State) : Prop :=
  (taken → t.pc = target) ∧ (¬ taken → t.pc = s.pc + 3) ∧ t.ir = s.progByte t.pc ∧
    t.stepCtr = 0 ∧ t.tmp = target.extractLsb' 0 8 ∧ t.imm = target.extractLsb' 8 8 ∧
    t.w = s.w ∧ t.flagC = s.flagC ∧ t.flagZ = s.flagZ ∧ t.sp = s.sp ∧
    (∀ i, t.grByte i = s.grByte i) ∧ t.outA = s.outA ∧ t.outB = s.outB ∧
    t.rom = s.rom ∧ t.prog = s.prog ∧ Samples false s t

/-- The six jumps. -/
def IsJump : Instr → Prop
  | .jmp _ | .jz _ | .jnz _ | .jc _ | .jnc _ | .jzc _ => True
  | _ => False

/-- The target of a jump. -/
def jumpTarget : Instr → Option Addr
  | .jmp target | .jz target | .jnz target | .jc target | .jnc target | .jzc target => some target
  | _ => none

/-- The seven instructions with operand `IN`. -/
def ReadsIn : Instr → Prop
  | .waddIn | .wsubIn | .wnegIn | .wandIn | .worIn | .wxorIn | .wloadIn => True
  | _ => False

/-- The same state but for the flags. -/
def AgreeButFlags (s t : State) : Prop := t = (s.setFlagC t.flagC).setFlagZ t.flagZ

/-- The same state but for `IMM` and `TMP`. -/
def AgreeButScratch (s t : State) : Prop := t = (s.setImm t.imm).setTmp t.tmp

/-- The same state but for what stands on the input port. -/
def AgreeButInput (s t : State) : Prop :=
  t = (s.setInDriven t.inDriven).setInSamples t.inSamples

/-- The operand `X` of a control word that writes `W` (40_microstep.md R161). -/
def wordOperand (s : State) : Transfer → Byte
  | .spToW => s.sp
  | .regImmToW => s.grByte s.imm
  | .regSpToW => s.grByte s.sp
  | .immToW => s.imm
  | .inToW => s.inValue
  | _ => 0

end Sys2Proof.Stated

open Sys2Proof.Stated

/-! ## Encoding -/

/-- Every well-formed instruction, with every operand, is read back from its bytes, whatever follows
them (R112, R114, R116, R302). -/
def Obligations.DecodeInvertsEncode : Prop :=
  ∀ (i : Instr) (rest : List Byte), i.wellFormed = true → decode (encode i ++ rest) = .ok (i, rest)

/-- What the decoder reads is well-formed, and its encoding is the bytes that were read: no bit of them
is dropped (R112, R116). -/
def Obligations.EncodeInvertsDecode : Prop :=
  ∀ (bytes rest : List Byte) (i : Instr), decode bytes = .ok (i, rest) →
    i.wellFormed = true ∧ bytes = encode i ++ rest

/-- No opcode is illegal: any opcode byte followed by two bytes decodes (R117, R361). -/
def Obligations.EveryOpcodeDecodes : Prop :=
  ∀ opcode b1 b2 : Byte, ∃ (i : Instr) (rest : List Byte),
    decode [opcode, b1, b2] = .ok (i, rest) ∧ i.opcode = opcode

/-- Words written out from the opcode map decode to the instructions they stand for (R116, R76). -/
def Obligations.SampleWordsDecode : Prop :=
  decode [0x00] = .ok (.waddSp, []) ∧ decode [0x0B, 0x10] = .ok (.wsubWbRegImm 0x10, []) ∧
  decode [0x15] = .ok (.wnegWbRegSp, []) ∧ decode [0x1E, 0x3C] = .ok (.wandImm 0x3C, []) ∧
  decode [0x27] = .ok (.worIn, []) ∧ decode [0x29] = .ok (.wxorWbSp, []) ∧
  decode [0x33, 0x05] = .ok (.wloadImm 0x05, []) ∧ decode [0x38] = .ok (.wstoreOutA, []) ∧
  decode [0x3B, 0x34, 0x12] = .ok (.jz 0x1234, []) ∧ decode [0x40] = .ok (.nop, []) ∧
  decode [0x41] = .ok (.halt, []) ∧ decode [0x99] = .ok (.filler 0x99, [])

/-- An instruction's length is one more than the `IMM_FETCH` steps of its sequence, and its cycles are
the sequence's steps, in every flag state (R113, R395). -/
def Obligations.LengthAndCyclesFollowSequence : Prop :=
  ∀ (i : Instr) (f : FlagState), i.wellFormed = true →
    i.length = 1 + fetchCount (sequenceOf i.opcode f) ∧
    i.cycles = (sequenceOf i.opcode f).length

/-- The assembler's line of a real instruction assembles to its encoding (R119, R341). -/
def Obligations.AssembledLineIsEncoding : Prop :=
  ∀ i : Instr, (∀ code, i ≠ .filler code) → assembleLine i.asmLine = .ok (encode i)

/-! ## Control words -/

/-- Decoding a control word inverts encoding a micro-step, and conversely; so encoding is injective
(R108, R111, R151). -/
def Obligations.ControlWordRoundTrip : Prop :=
  (∀ m : MicroStep, decodeWord (encodeStep m) = some m) ∧
  (∀ (word : Byte) (m : MicroStep), decodeWord word = some m → encodeStep m = word) ∧
  (∀ m n : MicroStep, encodeStep m = encodeStep n → m = n)

/-- The legal control words are the 47 of R109, and each occurs in the generated ROM. -/
def Obligations.LegalWordsAreThe47 : Prop :=
  (∀ word : Byte, legalWord word = true ↔ word ∈ legalWords) ∧
  legalWords.length = 47 ∧ legalWords.Nodup ∧
  ∀ word ∈ legalWords, ∃ (o : Byte) (f : FlagState) (k : BitVec 4), romByte o f k = word

/-- No transfer's source lacks `canSource`, no transfer's destination lacks `canDestination` (R37). -/
def Obligations.TransfersRespectCapabilities : Prop :=
  ∀ (t : Transfer) (r : Reg), (t.source = some r → r.canSource = true) ∧
    (t.dest = some r → r.canDestination = true)

/-- `transfer(src, dst)` answers the transfer whose code R105 gives the pair, and raises `RegisterCapabilityError`, with
the pair, where a capability is missing or no transfer has the pair; `transfer(W, TMP)` raises (R107). -/
def Obligations.TransferLookupByPair : Prop :=
  (∀ (src dst : Reg) (t : Transfer),
    transferOf src dst = .ok t ↔ (src, dst, t.code) ∈ transferPairs) ∧
  (∀ src dst : Reg, (src.canSource = false ∨ dst.canDestination = false ∨
      ∀ code, (src, dst, code) ∉ transferPairs) →
    transferOf src dst = .error (.registerCapability src dst)) ∧
  Reg.w.canSource = true ∧ Reg.tmp.canDestination = true ∧
  transferOf .w .tmp = .error (.registerCapability .w .tmp)

/-- The micro-step constructor: a step is built exactly where conditions (a) to (c) of R150 hold, as it
was asked for; otherwise `IllegalStepError`; a reset step encodes as `0x80`. -/
def Obligations.MicroStepConstructorChecks : Prop :=
  ∀ (t : Transfer) (op : AluOp) (reset : Bool),
    ((∃ m, mkStep t op reset = .ok m) ↔
      if reset = true then t = .noTransfer ∧ op = .nop
      else if t.dest = some .w then op ≠ .nop else op = .nop) ∧
    (∀ m, mkStep t op reset = .ok m →
      m.transfer = t ∧ m.alu = op ∧ m.reset = reset ∧ (reset = true → encodeStep m = 0x80)) ∧
    (∀ e, mkStep t op reset = .error e → e = .illegalStep t op reset)

/-! ## The ALU -/

/-- `ADD` (R175): the 9-bit sum's low byte and carry-out; the carry is set exactly when
`W + X >= 256`. -/
def Obligations.AddResultAndCarry : Prop :=
  AluOp.add.code = 0 ∧ ∀ w x : Byte,
    (aluResult .add w x).1 = (w.setWidth 9 + x.setWidth 9).setWidth 8 ∧
    (aluResult .add w x).2 = (w.setWidth 9 + x.setWidth 9).getLsbD 8 ∧
    ((aluResult .add w x).2 = true ↔ 256 ≤ w.toNat + x.toNat)

/-- `SUB` (R176): `W + NOT X + 1` on 9 bits, which is `W - X`; the carry is set exactly when there is no
borrow; `W = X` gives 0 with the carry set. -/
def Obligations.SubResultAndCarry : Prop :=
  AluOp.sub.code = 1 ∧ ∀ w x : Byte,
    (aluResult .sub w x).1 = (w.setWidth 9 + (~~~x).setWidth 9 + 1).setWidth 8 ∧
    (aluResult .sub w x).2 = (w.setWidth 9 + (~~~x).setWidth 9 + 1).getLsbD 8 ∧
    (aluResult .sub w x).1 = w - x ∧
    ((aluResult .sub w x).2 = true ↔ x.toNat ≤ w.toNat) ∧
    (w = x → aluResult .sub w x = (0, true))

/-- `NEG` (R177): `NOT X + 1` on 9 bits, which is `0 - X`; the carry is set exactly when `X = 0`; `W` is
no input; `X = 0x80` gives `0x80` with the carry clear. -/
def Obligations.NegResultAndCarry : Prop :=
  AluOp.neg.code = 2 ∧ ∀ w v x : Byte,
    (aluResult .neg w x).1 = ((~~~x).setWidth 9 + 1).setWidth 8 ∧
    (aluResult .neg w x).2 = ((~~~x).setWidth 9 + 1).getLsbD 8 ∧
    (aluResult .neg w x).1 = 0 - x ∧
    ((aluResult .neg w x).2 = true ↔ x = 0) ∧
    aluResult .neg w x = aluResult .neg v x ∧
    aluResult .neg w 0x80 = (0x80, false)

/-- `AND`, `OR`, `XOR` are bitwise and clear the carry (R178, R179, R180). -/
def Obligations.LogicResultsClearCarry : Prop :=
  AluOp.and.code = 4 ∧ AluOp.or.code = 5 ∧ AluOp.xor.code = 6 ∧ ∀ w x : Byte,
    (aluResult .and w x).2 = false ∧ (aluResult .or w x).2 = false ∧
    (aluResult .xor w x).2 = false ∧
    ∀ k : Nat,
      (aluResult .and w x).1.getLsbD k = (w.getLsbD k && x.getLsbD k) ∧
      (aluResult .or w x).1.getLsbD k = (w.getLsbD k || x.getLsbD k) ∧
      (aluResult .xor w x).1.getLsbD k = (w.getLsbD k != x.getLsbD k)

/-- `LOAD` answers `X` with the carry clear whatever `W` is, and no catalog entry writes its result
back (R181). -/
def Obligations.LoadIsPure : Prop :=
  AluOp.load.code = 7 ∧ (∀ w x : Byte, aluResult .load w x = (x, false)) ∧
  ∀ x : Reg, Kind.aluOp .load x true ∉ catalogKinds

/-- The flag state is `2*C + Z`: bit 1 is carry and bit 0 is zero (R40). -/
def Obligations.FlagStateIsCarryThenZero : Prop :=
  ∀ s : State, s.flagState.toNat = 2 * s.flagC.toNat + s.flagZ.toNat ∧
    s.flagState.getLsbD 1 = s.flagC ∧ s.flagState.getLsbD 0 = s.flagZ

/-! ## The branch balancer -/

/-- The policies place the taken path by the bits of the flag state; a side that is not given is the
global no-op step (R188, R189, R190, R191). -/
def Obligations.PoliciesPlaceTakenPath : Prop :=
  ∀ (t e : Option Steps) (f : FlagState),
    branchOf f (onZero t e) = branchSide (if f.getLsbD 0 then t else e) ∧
    branchOf f (onCarry t e) = branchSide (if f.getLsbD 1 then t else e) ∧
    branchOf f (onBoth t e) = branchSide (if f = 3 then t else e) ∧
    (onZero t e).length = 4 ∧ (onCarry t e).length = 4 ∧ (onBoth t e).length = 4 ∧
    branchSide none = [microNop] ∧ ∀ steps, branchSide (some steps) = steps

/-- `balance` answers the chosen branch, then no-op steps up to the length of the longest branch
(R192). -/
def Obligations.BalancePadsToLongest : Prop :=
  ∀ (f : FlagState) (branches : List Steps), branches.length = 4 →
    ∃ longest : Nat, (∀ b ∈ branches, b.length ≤ longest) ∧
      (∃ b ∈ branches, b.length = longest) ∧
      (balance f branches).length = longest ∧
      ∃ fill : Nat, balance f branches =
        branches.getD f.toNat [] ++ List.replicate fill microNop

/-! ## The generator -/

/-- Whatever catalog is given, a table that is generated is whole: 256 opcodes by 4 flag states, each
row the entry's sequence followed by reset steps up to 16 bytes, the four sequences of one length, every
byte a legal control word (R320, R322 to R324, R326, R330). -/
def Obligations.GeneratedTableIsWhole : Prop :=
  ∀ (cat : List Entry) (table : ControlTable), generateFrom cat = .ok table →
    cat.length ≤ 256 ∧ table.length = 256 ∧
    ∀ o : Fin 256, ∃ len : Nat, len ≤ 16 ∧ (table.getD o []).length = 4 ∧
      ∀ f : FlagState, ∃ steps : Steps,
        ((padCatalog cat).getD o fillerEntry).stepsFor f = .ok steps ∧ steps.length = len ∧
        (table.getD o []).getD f.toNat [] =
          steps.map encodeStep ++ List.replicate (16 - len) 0x80 ∧
        ∀ word ∈ (table.getD o []).getD f.toNat [], legalWord word = true

/-- More than 256 real instructions is `TableOverflowError`; exactly 256 is allowed, which means that
where each of their rows can be built that error is not raised, and leaves no filler; this catalog has
66 (R321). -/
def Obligations.OpcodeSpaceOverflow : Prop :=
  (∀ cat : List Entry, 256 < cat.length → generateFrom cat = .error .tableOverflow) ∧
  (∀ cat : List Entry, cat.length = 256 →
    (∀ k : Fin cat.length, ∃ rows, generateRows k (cat.get k) = .ok rows) →
    generateFrom cat ≠ .error .tableOverflow) ∧
  (∀ cat : List Entry, cat.length = 256 → padCatalog cat = cat) ∧
  buildCatalog.length = 66

/-- The error of the first opcode that fails ends the generation; an entry with a sequence longer than
16 steps fails with `TableOverflowError`, one whose four lengths differ with
`BranchLengthMismatchError` and its opcode (R320, R322, R323, R355, R359). -/
def Obligations.FirstFailingOpcodeEndsGeneration : Prop :=
  (∀ (before after : List Entry) (e : Entry) (err : BuildError),
    (before ++ e :: after).length ≤ 256 →
    (∀ k : Fin before.length, ∃ rows, generateRows k (before.get k) = .ok rows) →
    generateRows before.length e = .error err →
    generateFrom (before ++ e :: after) = .error err) ∧
  (∀ (o : Nat) (e : Entry) (steps : FlagState → Steps), (∀ f, e.stepsFor f = .ok (steps f)) →
    ((∃ f, 16 < (steps f).length) → generateRows o e = .error .tableOverflow) ∧
    ((∀ f, (steps f).length ≤ 16) → (∃ f g, (steps f).length ≠ (steps g).length) →
      generateRows o e = .error (.branchLengthMismatch o)))

/-- Two non-filler entries with one (name, operand) key: no table is generated (R331, R340, R358). -/
def Obligations.DuplicateKeyYieldsNoTable : Prop :=
  ∀ (cat : List Entry) (i j : Fin cat.length), i < j →
    (cat.get i).filler = false → (cat.get j).filler = false →
    (cat.get i).name = (cat.get j).name → (cat.get i).operand = (cat.get j).operand →
    ∀ table : ControlTable, generateFrom cat ≠ .ok table

/-- A key that resolves is described by itself and is one of 66; each of the 66 opcodes resolves from
its description; every other opcode is described as `("NOP", "")` (R331, R340 to R342). -/
def Obligations.ResolveInvertsDescribe : Prop :=
  (∀ (name operand : String) (o : Byte), resolveOpcode name operand = .ok o →
    o.toNat < 66 ∧ describeOpcode o = (name, operand)) ∧
  (∀ o : Byte, o.toNat < 66 →
    resolveOpcode (describeOpcode o).1 (describeOpcode o).2 = .ok o) ∧
  (∀ o : Byte, 66 ≤ o.toNat → describeOpcode o = ("NOP", ""))

/-- The ROM's linear address: `A = o*64 + f*16 + s`, with the opcode in `A[13:6]`, the flag state in
`A[5:4]`, carry above zero, and the step in `A[3:0]`; the generated table is 256 by 4 by 16 bytes, and
the byte at `A` is its entry (R71). -/
def Obligations.RomAddressFields : Prop :=
  (∃ table, generateControlTable = .ok table ∧ table.length = 256 ∧
    (∀ rows ∈ table, rows.length = 4 ∧ ∀ row ∈ rows, row.length = 16) ∧
    ∀ (o : Byte) (f : FlagState) (k : BitVec 4),
      ((table.getD o.toNat []).getD f.toNat []).getD k.toNat 0 = romByteAt (romAddr o f k)) ∧
  (∀ (s : State) (o : Byte) (k : BitVec 4),
    (romAddr o s.flagState k).getLsbD 5 = s.flagC ∧ (romAddr o s.flagState k).getLsbD 4 = s.flagZ) ∧
  ∀ (o : Byte) (f : FlagState) (k : BitVec 4),
    (romAddr o f k).toNat = o.toNat * 64 + f.toNat * 16 + k.toNat ∧
    (romAddr o f k).extractLsb' 6 8 = o ∧ (romAddr o f k).getLsbD 5 = f.getLsbD 1 ∧
    (romAddr o f k).getLsbD 4 = f.getLsbD 0 ∧ (romAddr o f k).extractLsb' 0 4 = k ∧
    romByteAt (romAddr o f k) = romByte o f k ∧
    romAddr 0x3B 1 3 = 0x0ED3

/-- For every opcode but the six jumps the four rows are the same (R332 item 1, R195). -/
def Obligations.OnlyJumpRowsDifferByFlags : Prop :=
  ∀ (o : Byte) (f g : FlagState) (k : BitVec 4), (o.toNat < 0x3A ∨ 0x3F < o.toNat) →
    romByte o f k = romByte o g k

/-- In every row the bytes before the sequence's last are no reset step, the last and all after it are
`0x80`; the sequence has 1 to 6 steps, and only `HALT` has 1; the step before the last is `PC_INC`,
`IMM->PC_H` or the not-taken no-op (R332 items 2, 3 and 7, R397). -/
def Obligations.RowsEndInOneReset : Prop :=
  ∀ (o : Byte) (f : FlagState),
    1 ≤ sequenceLength o ∧ sequenceLength o ≤ 6 ∧ (sequenceLength o = 1 ↔ o = 0x41) ∧
    ∀ k : BitVec 4,
      (romByte o f k = 0x80 ↔ sequenceLength o ≤ k.toNat + 1) ∧
      (k.toNat + 2 = sequenceLength o → romByte o f k ∈ [0x3F, 0x3D, 0x30])

/-- A jump's row is `3E 3B 3E`, then `3C 3D 80` where its condition holds in that flag state and
`3F 30 80` where not (R332 item 5, R280). -/
def Obligations.JumpRowsFollowCondition : Prop :=
  ∀ (o : Byte) (f : FlagState) (taken : Bool),
    (o, taken) ∈ [((0x3A : Byte), true), (0x3B, f.getLsbD 0), (0x3C, !f.getLsbD 0),
      (0x3D, f.getLsbD 1), (0x3E, !f.getLsbD 1), (0x3F, f.getLsbD 1 && f.getLsbD 0)] →
    [romByte o f 0, romByte o f 1, romByte o f 2, romByte o f 3, romByte o f 4, romByte o f 5] =
      [0x3E, 0x3B, 0x3E] ++ (if taken then [0x3C, 0x3D, 0x80] else [0x3F, 0x30, 0x80])

/-! ## One clock cycle -/

/-- An illegal control word is a fault; a reset step loads `IR` from `PROG[PC]` and clears `STEP`,
changing nothing else; any other legal word moves `STEP` on by 1 modulo 16 and leaves `IR` (R110, R170,
R33, R34). -/
def Obligations.CycleResetsOrAdvances : Prop :=
  ∀ s : State,
    (s.controlWord ∉ legalWords → cycle s = .fault (.illegalControlWord s.controlWord)) ∧
    (s.controlWord = 0x80 → cycle s = .next { s with ir := s.progByte s.pc, stepCtr := 0 }) ∧
    (s.controlWord ∈ legalWords → s.controlWord ≠ 0x80 →
      ∃ t, cycle s = .next t ∧ t.stepCtr = s.stepCtr + 1 ∧ t.ir = s.ir)

/-- The control words whose transfer does not write `W`, each by its rule (R163 to R168). -/
def Obligations.CounterWordsActByRule : Prop :=
  ∀ s : State,
    (s.controlWord = 0x30 → cycle s = .next { s with stepCtr := s.stepCtr + 1 }) ∧
    (s.controlWord = 0x3B → cycle s = .next { s with tmp := s.imm, stepCtr := s.stepCtr + 1 }) ∧
    (s.controlWord = 0x3C → cycle s = .next { s with
      pc := BitVec.ofNat 16 (s.pc.toNat / 256 * 256 + s.tmp.toNat), stepCtr := s.stepCtr + 1 }) ∧
    (s.controlWord = 0x3D → cycle s = .next { s with
      pc := BitVec.ofNat 16 (s.imm.toNat * 256 + s.pc.toNat % 256), stepCtr := s.stepCtr + 1 }) ∧
    (s.controlWord = 0x3E → cycle s = .next { s with
      pc := BitVec.ofNat 16 (s.pc.toNat + 1),
      imm := s.progByte (BitVec.ofNat 16 (s.pc.toNat + 1)), stepCtr := s.stepCtr + 1 }) ∧
    (s.controlWord = 0x3F → cycle s = .next { s with
      pc := BitVec.ofNat 16 (s.pc.toNat + 1), stepCtr := s.stepCtr + 1 })

/-- The control words that copy `W` out: the register, entry or latch the rule names holds `W`, every
other entry reads as before, and nothing else but `STEP` changes (R169). -/
def Obligations.MoveWordsCopyAccumulator : Prop :=
  ∀ s : State,
    (s.controlWord = 0x36 → cycle s = .next { s with sp := s.w, stepCtr := s.stepCtr + 1 }) ∧
    (s.controlWord = 0x39 → cycle s = .next { s with outA := s.w, stepCtr := s.stepCtr + 1 }) ∧
    (s.controlWord = 0x3A → cycle s = .next { s with outB := s.w, stepCtr := s.stepCtr + 1 }) ∧
    (s.controlWord = 0x37 → ∃ t, cycle s = .next t ∧ (∀ j, t.grByte j = grWith s s.imm s.w j) ∧
      t = { s with gr := t.gr, stepCtr := s.stepCtr + 1 }) ∧
    (s.controlWord = 0x38 → ∃ t, cycle s = .next t ∧ (∀ j, t.grByte j = grWith s s.sp s.w j) ∧
      t = { s with gr := t.gr, stepCtr := s.stepCtr + 1 })

/-- The control words that write `W`: the ALU's result and carry on `W` and the operand, `Z` set exactly
when the result is 0, one sample taken where the operand is `IN`, nothing else but `STEP` changed
(R161). -/
def Obligations.AluWordsWriteAccumulatorAndFlags : Prop :=
  ∀ (s : State) (m : MicroStep), m.transfer.dest = some .w → s.controlWord = encodeStep m →
    ∃ t, cycle s = .next t ∧
      (t.w, t.flagC) = aluResult m.alu s.w (wordOperand s m.transfer) ∧
      (t.flagZ = true ↔ t.w = 0) ∧ Samples (m.transfer == .inToW) s t ∧
      t = { s with w := t.w, flagC := t.flagC, flagZ := t.flagZ, inDriven := t.inDriven,
                   inSamples := t.inSamples, stepCtr := s.stepCtr + 1 }

/-- In any state, a cycle that changes a flag, or `W`, or samples the port, ran a control word with a
`W`-writing transfer (R39, R162). -/
def Obligations.OnlyAluWordsTouchFlags : Prop :=
  ∀ s t : State, cycle s = .next t →
    (t.flagC ≠ s.flagC ∨ t.flagZ ≠ s.flagZ ∨ t.w ≠ s.w ∨ t.inSamples ≠ s.inSamples) →
    ∃ m : MicroStep, decodeWord s.controlWord = some m ∧ m.transfer.dest = some .w

/-- No cycle and no step, from any state, writes program memory or the control ROM (R72). -/
def Obligations.ProgramAndRomAreReadOnly : Prop :=
  ∀ s t : State, (cycle s = .next t ∨ step s = .next t) → t.prog = s.prog ∧ t.rom = s.rom

/-- With the generated ROM no number of cycles faults, from any state (R330, R360). -/
def Obligations.GeneratedRomNeverFaults : Prop :=
  ∀ (n : Nat) (s : State), s.GeneratedRom → ∃ t, cycles n s = .next t ∧ t.GeneratedRom

/-- The sequencer's invariant is kept by every cycle: `STEP` stays within the sequence of the opcode in
`IR`, and `IR = PROG[PC]` whenever `STEP` is 0 (R172, R383, R397). -/
def Obligations.CycleKeepsSequencerOk : Prop :=
  ∀ s t : State, s.SequencerOk → cycle s = .next t → t.SequencerOk

/-! ## Instructions and micro-steps -/

/-- An instruction is its micro-steps: from an instruction boundary with the generated ROM, running as
many clock cycles as the decoded instruction has gives exactly its meaning, and `STEP` is `k` after
each of the first `k` of them (R170, R390, R395, R200, R270, R280, R300, R301). -/
def Obligations.InstructionIsItsMicrosteps : Prop :=
  ∀ (s : State) (i : Instr) (rest : List Byte), s.GeneratedRom → s.AtBoundary →
    decode [s.progByte s.pc, s.progByte (s.pc + 1), s.progByte (s.pc + 2)] = .ok (i, rest) →
    cycles i.cycles s = exec i s ∧
    ∀ k : Nat, k < i.cycles → ∃ t, cycles k s = .next t ∧ t.stepCtr = BitVec.ofNat 4 k

/-- A step of the machine is the sequencer's cycles up to the next reset step, in every state with the
generated ROM: at a boundary, where it runs an instruction's meaning, as in the middle of one (R170,
R390). -/
def Obligations.StepIsMicrocode : Prop :=
  ∀ s : State, s.GeneratedRom → step s = runToReset 16 s

/-- A step runs the decoded instruction: at a boundary with the generated ROM, where the bytes at `PC`
decode to `i`, the step is `exec i` (R170, R383). -/
def Obligations.StepRunsDecodedInstruction : Prop :=
  ∀ (s : State) (i : Instr) (rest : List Byte), s.GeneratedRom → s.AtBoundary →
    decode [s.progByte s.pc, s.progByte (s.pc + 1), s.progByte (s.pc + 2)] = .ok (i, rest) →
    step s = exec i s

/-- Every step from a boundary state ends in a boundary state: the generated ROM in place, `STEP` 0,
`IR = PROG[PC]`, and every memory in its canonical form inside its space (R171, R383). The canonical
form is the model's (log entries 2, 3, 6). -/
def Obligations.StepKeepsBoundaryOk : Prop :=
  ∀ s t : State, s.BoundaryOk → step s = .next t → t.BoundaryOk

/-- From every boundary state a step completes: the machine neither faults nor refuses (R360, R361). -/
def Obligations.BoundaryStepCompletes : Prop :=
  ∀ s : State, s.BoundaryOk → ∃ t, step s = .next t

/-- Power-on reset, in whatever state it is applied, sets `PC` to 0, `STEP` to 0 and `IR` to `PROG[0]`
and keeps everything else; so with the generated ROM it establishes the sequencer's invariant, with
well-formed memories the boundary invariant, and the reset state has both (R380, R381, R383). -/
def Obligations.PowerOnEstablishesInvariants : Prop :=
  (∀ s : State, s.powerOn = { s with pc := 0x0000, stepCtr := 0, ir := s.progByte 0x0000 }) ∧
  (∀ s : State, s.GeneratedRom → s.powerOn.SequencerOk) ∧
  (∀ s : State, s.GeneratedRom → s.MemoryWf → s.powerOn.BoundaryOk) ∧
  State.reset.SequencerOk ∧ State.reset.BoundaryOk

/-! ## The ALU instructions: result, flags, completion and frame -/

/-- `WADD` in its eight forms (R201 to R208, R175). -/
def Obligations.WaddFormsComplete : Prop :=
  PlainFormsComplete (fun w x => w + x) (fun w x => decide (256 ≤ w.toNat + x.toNat))
    .waddSp .waddRegImm .waddRegSp .waddImm .waddIn ∧
  WritebackFormsComplete (fun w x => w + x) (fun w x => decide (256 ≤ w.toNat + x.toNat))
    .waddWbSp .waddWbRegImm .waddWbRegSp

/-- `WSUB` in its eight forms; the carry is set when there is no borrow (R209 to R216, R176). -/
def Obligations.WsubFormsComplete : Prop :=
  PlainFormsComplete (fun w x => w - x) (fun w x => decide (x.toNat ≤ w.toNat))
    .wsubSp .wsubRegImm .wsubRegSp .wsubImm .wsubIn ∧
  WritebackFormsComplete (fun w x => w - x) (fun w x => decide (x.toNat ≤ w.toNat))
    .wsubWbSp .wsubWbRegImm .wsubWbRegSp

/-- `WNEG` in its eight forms; `W` is not read (R217 to R224, R177). -/
def Obligations.WnegFormsComplete : Prop :=
  PlainFormsComplete (fun _ x => 0 - x) (fun _ x => decide (x = 0))
    .wnegSp .wnegRegImm .wnegRegSp .wnegImm .wnegIn ∧
  WritebackFormsComplete (fun _ x => 0 - x) (fun _ x => decide (x = 0))
    .wnegWbSp .wnegWbRegImm .wnegWbRegSp

/-- `WAND` in its eight forms; the carry is cleared (R225 to R232, R178). -/
def Obligations.WandFormsComplete : Prop :=
  PlainFormsComplete (fun w x => w &&& x) (fun _ _ => false)
    .wandSp .wandRegImm .wandRegSp .wandImm .wandIn ∧
  WritebackFormsComplete (fun w x => w &&& x) (fun _ _ => false)
    .wandWbSp .wandWbRegImm .wandWbRegSp

/-- `WOR` in its eight forms; the carry is cleared (R233 to R240, R179). -/
def Obligations.WorFormsComplete : Prop :=
  PlainFormsComplete (fun w x => w ||| x) (fun _ _ => false)
    .worSp .worRegImm .worRegSp .worImm .worIn ∧
  WritebackFormsComplete (fun w x => w ||| x) (fun _ _ => false)
    .worWbSp .worWbRegImm .worWbRegSp

/-- `WXOR` in its eight forms; the carry is cleared (R241 to R248, R180). -/
def Obligations.WxorFormsComplete : Prop :=
  PlainFormsComplete (fun w x => w ^^^ x) (fun _ _ => false)
    .wxorSp .wxorRegImm .wxorRegSp .wxorImm .wxorIn ∧
  WritebackFormsComplete (fun w x => w ^^^ x) (fun _ _ => false)
    .wxorWbSp .wxorWbRegImm .wxorWbRegSp

/-- `WLOAD` in its five forms; it has no writeback (R249 to R253, R181). -/
def Obligations.WloadFormsComplete : Prop :=
  PlainFormsComplete (fun _ x => x) (fun _ _ => false)
    .wloadSp .wloadRegImm .wloadRegSp .wloadImm .wloadIn

/-! ## Stores, jumps, NOP and HALT -/

/-- `WSTORE` in its five forms: each completes, writes `W` to its destination and changes neither `W`
nor the flags (R270 to R275). -/
def Obligations.StoresComplete : Prop :=
  ∀ (s : State) (b : Byte),
    (∃ t, exec .wstoreSp s = .next t ∧ StoreLeaves 1 s.imm s.w s.grByte s.outA s.outB s t) ∧
    (∃ t, exec (.wstoreRegImm b) s = .next t ∧
      StoreLeaves 2 b s.sp (grWith s b s.w) s.outA s.outB s t) ∧
    (∃ t, exec .wstoreRegSp s = .next t ∧
      StoreLeaves 1 s.imm s.sp (grWith s s.sp s.w) s.outA s.outB s t) ∧
    (∃ t, exec .wstoreOutA s = .next t ∧ StoreLeaves 1 s.imm s.sp s.grByte s.w s.outB s t) ∧
    (∃ t, exec .wstoreOutB s = .next t ∧ StoreLeaves 1 s.imm s.sp s.grByte s.outA s.w s t)

/-- The six jumps: each completes, goes to its target exactly when its condition holds on the flags it
starts with, and leaves the target's bytes in `TMP` and `IMM` either way (R280 to R287). -/
def Obligations.JumpsComplete : Prop :=
  ∀ (s : State) (target : Addr),
    (∃ t, exec (.jmp target) s = .next t ∧ JumpLeaves True target s t) ∧
    (∃ t, exec (.jz target) s = .next t ∧ JumpLeaves (s.flagZ = true) target s t) ∧
    (∃ t, exec (.jnz target) s = .next t ∧ JumpLeaves (s.flagZ = false) target s t) ∧
    (∃ t, exec (.jc target) s = .next t ∧ JumpLeaves (s.flagC = true) target s t) ∧
    (∃ t, exec (.jnc target) s = .next t ∧ JumpLeaves (s.flagC = false) target s t) ∧
    (∃ t, exec (.jzc target) s = .next t ∧
      JumpLeaves (s.flagC = true ∧ s.flagZ = true) target s t)

/-- `NOP` and every filler opcode complete: `PC` moves on by one byte and the next opcode is fetched,
nothing else changes (R300, R302). -/
def Obligations.NopAndFillersOnlyAdvance : Prop :=
  ∀ (s : State) (code : Byte),
    exec .nop s = .next { s with pc := s.pc + 1, ir := s.progByte (s.pc + 1), stepCtr := 0 } ∧
    exec (.filler code) s =
      .next { s with pc := s.pc + 1, ir := s.progByte (s.pc + 1), stepCtr := 0 }

/-- `HALT` completes, writing nothing but `IR`, with the opcode at `PC`, and `STEP`, with 0 (R301). -/
def Obligations.HaltRefetchesItself : Prop :=
  ∀ s : State, exec .halt s = .next { s with ir := s.progByte s.pc, stepCtr := 0 }

/-- An ended run stays ended: every later cycle, and every later step, leaves the state as it is (R301,
R372, R392). -/
def Obligations.EndedRunStays : Prop :=
  ∀ (n : Nat) (s : State), s.GeneratedRom → s.AtBoundary → s.Ended →
    cycles n s = .next s ∧ Host.Core.run Sys2Proof.core n s = .next s

/-! ## Whole-machine rules -/

/-- The flags do not affect what an instruction other than a jump does: run from two states that differ
only in the flags, it ends in states that differ only in the flags (R41). -/
def Obligations.FlagsSteerOnlyJumps : Prop :=
  ∀ (i : Instr) (s s' : State), ¬ IsJump i → AgreeButFlags s s' →
    ∃ t t', exec i s = .next t ∧ exec i s' = .next t' ∧ AgreeButFlags t t'

/-- No instruction reads an `IMM` or `TMP` left by an earlier one (R49). -/
def Obligations.StaleScratchIsNeverRead : Prop :=
  ∀ (i : Instr) (s s' : State), AgreeButScratch s s' →
    ∃ t t', exec i s = .next t ∧ exec i s' = .next t' ∧ AgreeButScratch t t'

/-- An instruction with operand `IN` samples the port once; no other samples it, and what stands on the
port does not affect what any other does (R78, R161, R396). -/
def Obligations.OnlyInFormsReadThePort : Prop :=
  (∀ (i : Instr) (s t : State), exec i s = .next t →
    (ReadsIn i → Samples true s t) ∧ (¬ ReadsIn i → Samples false s t)) ∧
  (∀ (i : Instr) (s s' : State), ¬ ReadsIn i → AgreeButInput s s' →
    ∃ t t', exec i s = .next t ∧ exec i s' = .next t' ∧ AgreeButInput t t')

/-- `REG_SP` and `REG_IMM` are views of one file: what a store through either writes, a load through the
other with the same index reads (R48). -/
def Obligations.IndexedViewsShareOneFile : Prop :=
  ∀ s : State,
    (∃ t u, exec .wstoreRegSp s = .next t ∧ exec (.wloadRegImm s.sp) t = .next u ∧ u.w = s.w) ∧
    (∃ t u, exec (.wstoreRegImm s.sp) s = .next t ∧ exec .wloadRegSp t = .next u ∧ u.w = s.w)

/-- After any instruction `PC` is past its bytes, at its jump target, or, for `HALT` alone, where it was;
and `IR` holds the opcode at `PC` with `STEP` 0 (R171, R383, R45). -/
def Obligations.InstructionEndsAtNextOpcode : Prop :=
  ∀ (i : Instr) (s : State), ∃ t, exec i s = .next t ∧ t.AtBoundary ∧
    (i = .halt → t.pc = s.pc) ∧
    (i ≠ .halt → ¬ IsJump i → t.pc.toNat = (s.pc.toNat + i.length) % 65536) ∧
    (∀ target, jumpTarget i = some target →
      t.pc = target ∨ t.pc.toNat = (s.pc.toNat + i.length) % 65536)

/-! ## The transfer catalog -/

/-- Building a transfer catalog fails, with the configuration error, exactly where two rows share a
code, a code does not fit the field, a value of the field is no transfer, two rows share a pair, or a
pair's register lacks its capability; this catalog has 16 rows, the 13 pairs with their codes of R105
among them, and fails none (R106). -/
def Obligations.TransferCatalogIsChecked : Prop :=
  (∀ (bits : Nat) (rows : List TransferRow),
    checkTransferCatalog bits rows = .error .transferCatalogConfig ↔
      (∃ i j : Fin rows.length, i < j ∧ (rows.get i).code = (rows.get j).code) ∨
      (∃ r ∈ rows, 2 ^ bits ≤ r.code) ∨
      (∃ c : Nat, c < 2 ^ bits ∧ ∀ r ∈ rows, r.code ≠ c) ∨
      (∃ (i j : Fin rows.length) (src dst : Reg), i < j ∧ (rows.get i).pair = some (src, dst) ∧
        (rows.get j).pair = some (src, dst)) ∨
      (∃ r ∈ rows, ∃ src dst : Reg, r.pair = some (src, dst) ∧
        (src.canSource = false ∨ dst.canDestination = false))) ∧
  checkTransferCatalog 4 transferRows = .ok () ∧
  transferRows.length = 16 ∧ transferPairs.length = 13 ∧
  ∀ (src dst : Reg) (code : BitVec 4),
    (src, dst, code) ∈ transferPairs ↔ ⟨some (src, dst), code.toNat⟩ ∈ transferRows
end

