-- ==== Sys2Proof/Laws/Generator.lean ====
section
/-!
SUPPORT. The control ROM the machine reads is what the initializer generates, and the catalog assigns
the opcodes as the opcode map does.
-/

namespace Sys2Proof

/-- A transfer catalog is accepted exactly where the properties of R106 hold (30_encoding.md). -/
theorem checkTransferCatalog_ok_iff (bits : Nat) (rows : List TransferRow) :
    checkTransferCatalog bits rows = .ok () ↔
      (rows.map (·.code)).Nodup ∧ (∀ r ∈ rows, r.code < 2 ^ bits) ∧
      (∀ c, c < 2 ^ bits → ∃ r ∈ rows, r.code = c) ∧ (rows.filterMap (·.pair)).Nodup ∧
      ∀ r ∈ rows, ∀ pair, r.pair = some pair → transferPairCapable pair = true := by
  unfold checkTransferCatalog
  split
  · rename_i h
    simp only [transferCodesFit, transferCodesDense, transferPairsLegal, Bool.and_eq_true,
      decide_eq_true_eq, List.all_eq_true, List.mem_range, List.any_eq_true, beq_iff_eq,
      List.mem_filterMap] at h
    exact iff_of_true rfl ⟨h.1.1.1, h.1.1.2, h.1.2, h.2.1, fun r hr pair hp => h.2.2 pair ⟨r, hr, hp⟩⟩
  · rename_i h
    refine iff_of_false (fun h => by cases h) fun ⟨h1, h2, h3, h4, h5⟩ => h ?_
    simp only [transferCodesFit, transferCodesDense, transferPairsLegal, Bool.and_eq_true,
      decide_eq_true_eq, List.all_eq_true, List.mem_range, List.any_eq_true, beq_iff_eq,
      List.mem_filterMap]
    exact ⟨⟨⟨h1, h2⟩, h3⟩, h4, fun pair ⟨r, hr, hp⟩ => h5 r hr pair hp⟩

theorem generateControlTable_toOption : generateControlTable.toOption = some controlTable := by
  decide +kernel

/-- `generateControlTable()` answers the table the ROM is read from (10_state.md R32). -/
theorem generateControlTable_eq : generateControlTable = .ok controlTable := by
  have h := generateControlTable_toOption
  cases hg : generateControlTable with
  | error e => rw [hg] at h; simp [Except.toOption] at h
  | ok t => rw [hg] at h; simp only [Except.toOption, Option.some.injEq] at h; rw [h]

/-- The index built with its duplicate check is the index `resolveOpcode` reads. -/
theorem buildIndex_eq : (buildIndex 0 [] buildCatalog).toOption = some opcodeIndex := by
  decide +kernel

/-- The linear address separates into opcode, flag state and step again (20_memory.md R71). -/
theorem romByteAt_romAddr (o : Byte) (f : FlagState) (k : BitVec 4) :
    romByteAt (romAddr o f k) = romByte o f k := by
  have h1 : (romAddr o f k).extractLsb' 6 8 = o := by
    apply BitVec.eq_of_getLsbD_eq
    intro i hi
    simp only [romAddr, BitVec.getLsbD_extractLsb', BitVec.getLsbD_append]
    have a : ¬ (6 + i < 4) := by omega
    have b : ¬ (6 + i - 4 < 2) := by omega
    have c : 6 + i - 4 - 2 = i := by omega
    simp [a, b, c, hi]
  have h2 : (romAddr o f k).extractLsb' 4 2 = f := by
    apply BitVec.eq_of_getLsbD_eq
    intro i hi
    simp only [romAddr, BitVec.getLsbD_extractLsb', BitVec.getLsbD_append]
    simp [hi]
  have h3 : (romAddr o f k).extractLsb' 0 4 = k := by
    apply BitVec.eq_of_getLsbD_eq
    intro i hi
    simp only [romAddr, BitVec.getLsbD_extractLsb', BitVec.getLsbD_append]
    simp [hi]
  rw [romByteAt, h1, h2, h3]

end Sys2Proof
end

