-- ==== Sys2Proof/Laws/Memory.lean ====
section
/-!
SUPPORT. The laws of memory: a read after a write, writes leave every other address alone, every memory
operation keeps the canonical form, and the reset state's memories have it.
-/

namespace Sys2Proof.Machine

theorem Mem.find_insert_same (m : Mem) (a : Nat) (v : Byte) : Mem.find (Mem.insert m a v) a = some v := by
  induction m with
  | nil => simp [Mem.insert, Mem.find]
  | cons c m ih =>
    obtain ⟨b, u⟩ := c
    simp only [Mem.insert]
    split
    · simp [Mem.find]
    · split
      · simp [Mem.find]
      · rename_i _ h
        simp [Mem.find, Ne.symm h, ih]

theorem Mem.find_insert_other (m : Mem) (a b : Nat) (v : Byte) (h : b ≠ a) :
    Mem.find (Mem.insert m a v) b = Mem.find m b := by
  induction m with
  | nil => simp [Mem.insert, Mem.find, Ne.symm h]
  | cons c m ih =>
    obtain ⟨d, u⟩ := c
    simp only [Mem.insert]
    split
    · simp [Mem.find, Ne.symm h]
    · split
      · rename_i _ hd
        subst hd
        simp [Mem.find, Ne.symm h]
      · simp [Mem.find, ih]

theorem Mem.find_erase_other (m : Mem) (a b : Nat) (h : b ≠ a) :
    Mem.find (Mem.erase m a) b = Mem.find m b := by
  induction m with
  | nil => rfl
  | cons c m ih =>
    obtain ⟨d, u⟩ := c
    simp only [Mem.erase]
    split
    · rename_i hd
      subst hd
      simp [Mem.find, Ne.symm h, ih]
    · simp [Mem.find, ih]

theorem Mem.find_erase_same (m : Mem) (a : Nat) : Mem.find (Mem.erase m a) a = none := by
  induction m with
  | nil => rfl
  | cons c m ih =>
    obtain ⟨b, u⟩ := c
    simp only [Mem.erase]
    split
    · exact ih
    · rename_i hab
      simp [Mem.find, Ne.symm hab, ih]

/-! ## The canonical form -/

theorem Mem.wfFrom_mono {sp : Space} {lo hi : Nat} {m : Mem} (h : Mem.wfFrom sp hi m = true)
    (hlo : lo ≤ hi) : Mem.wfFrom sp lo m = true := by
  cases m with
  | nil => rfl
  | cons c m =>
    simp only [Mem.wfFrom, Bool.and_eq_true, decide_eq_true_eq] at h ⊢
    exact ⟨⟨⟨by omega, h.1.1.2⟩, h.1.2⟩, h.2⟩

theorem Mem.wfFrom_insert {sp : Space} {lo a : Nat} {v : Byte} {m : Mem}
    (h : Mem.wfFrom sp lo m = true) (hlo : lo ≤ a) (ha : a < sp.size) (hv : v ≠ sp.fill a) :
    Mem.wfFrom sp lo (Mem.insert m a v) = true := by
  induction m generalizing lo with
  | nil => simp [Mem.insert, Mem.wfFrom, hlo, ha, hv]
  | cons c m ih =>
    obtain ⟨b, u⟩ := c
    simp only [Mem.wfFrom, Bool.and_eq_true, decide_eq_true_eq] at h
    obtain ⟨⟨⟨h1, h2⟩, h3⟩, h4⟩ := h
    simp only [Mem.insert]
    split
    · simp only [Mem.wfFrom, Bool.and_eq_true, decide_eq_true_eq]
      exact ⟨⟨⟨hlo, ha⟩, hv⟩, ⟨⟨by omega, h2⟩, h3⟩, h4⟩
    · split
      · rename_i _ hab
        subst hab
        simp only [Mem.wfFrom, Bool.and_eq_true, decide_eq_true_eq]
        exact ⟨⟨⟨hlo, ha⟩, hv⟩, h4⟩
      · simp only [Mem.wfFrom, Bool.and_eq_true, decide_eq_true_eq]
        exact ⟨⟨⟨h1, h2⟩, h3⟩, ih h4 (by omega)⟩

theorem Mem.wfFrom_erase {sp : Space} {lo a : Nat} {m : Mem} (h : Mem.wfFrom sp lo m = true) :
    Mem.wfFrom sp lo (Mem.erase m a) = true := by
  induction m generalizing lo with
  | nil => rfl
  | cons c m ih =>
    obtain ⟨b, u⟩ := c
    simp only [Mem.wfFrom, Bool.and_eq_true, decide_eq_true_eq] at h
    obtain ⟨⟨⟨h1, h2⟩, h3⟩, h4⟩ := h
    simp only [Mem.erase]
    split
    · exact Mem.wfFrom_mono (ih h4) (by omega)
    · simp only [Mem.wfFrom, Bool.and_eq_true, decide_eq_true_eq]
      exact ⟨⟨⟨h1, h2⟩, h3⟩, ih h4⟩

/-- A write inside a space keeps the canonical form. -/
theorem Mem.wf_write {sp : Space} {m : Mem} {a : Nat} {v : Byte} (h : Mem.wf sp m = true)
    (ha : a < sp.size) : Mem.wf sp (Mem.write sp m a v) = true := by
  unfold Mem.write
  split
  · exact Mem.wfFrom_erase h
  · rename_i hv
    exact Mem.wfFrom_insert h (Nat.zero_le a) ha hv

/-- A read of another address sees what it saw before the write. -/
theorem Mem.read_write_other (sp : Space) (m : Mem) (a b : Nat) (v : Byte) (h : b ≠ a) :
    Mem.read sp (Mem.write sp m a v) b = Mem.read sp m b := by
  unfold Mem.read Mem.write
  split
  · rw [Mem.find_erase_other m a b h]
  · rw [Mem.find_insert_other m a b v h]

/-- A read of the address just written sees the value. -/
theorem Mem.read_write_same (sp : Space) (m : Mem) (a : Nat) (v : Byte) :
    Mem.read sp (Mem.write sp m a v) a = v := by
  unfold Mem.read Mem.write
  split
  · rename_i hv
    rw [Mem.find_erase_same, hv]
    rfl
  · rw [Mem.find_insert_same]
    rfl

/-! ## Reads and writes of the machine's spaces -/

/-- A register-file write is seen at its index and nowhere else. -/
theorem State.grByte_setGrByte (s : State) (i j v : Byte) :
    (s.setGrByte i v).grByte j = if j = i then v else s.grByte j := by
  unfold State.setGrByte State.grByte State.setGr
  split
  · rename_i h
    subst h
    exact Mem.read_write_same .gr s.gr _ v
  · rename_i h
    exact Mem.read_write_other .gr s.gr _ _ v (fun h' => h (BitVec.eq_of_toNat_eq h'))

/-- A register-file write keeps the file's canonical form. -/
theorem State.wf_setGrByte (s : State) (i v : Byte) (h : Mem.wf .gr s.gr = true) :
    Mem.wf .gr (s.setGrByte i v).gr = true :=
  Mem.wf_write h (by have := i.isLt; simpa [Space.size, Config.grSize] using this)

/-- The host's placing of bytes keeps program memory's canonical form. -/
theorem State.wf_placeBytes (bytes : List Byte) (s : State) (a : Addr)
    (h : Mem.wf .prog s.prog = true) : Mem.wf .prog (s.placeBytes a bytes).prog = true := by
  induction bytes generalizing s a with
  | nil => exact h
  | cons b rest ih =>
    exact ih _ _ (Mem.wf_write h (by have := a.isLt; simpa [Space.size, Config.progSize] using this))

/-- The reset state's memories are in canonical form. -/
theorem State.wf_reset : Mem.wf .rom State.reset.rom = true ∧ Mem.wf .prog State.reset.prog = true ∧
    Mem.wf .gr State.reset.gr = true := ⟨rfl, rfl, rfl⟩

end Sys2Proof.Machine
end

