-- ==== Sys2Proof/Laws/State.lean ====
section
/-!
SUPPORT. What each named update of State does to each field: one lemma per field per update.
-/

namespace Sys2Proof.Machine.State

variable (s : State)

section
variable (v : Mem)
@[simp] theorem setRom_rom : (s.setRom v).rom = v := rfl
@[simp] theorem setRom_prog : (s.setRom v).prog = s.prog := rfl
@[simp] theorem setRom_gr : (s.setRom v).gr = s.gr := rfl
@[simp] theorem setRom_ir : (s.setRom v).ir = s.ir := rfl
@[simp] theorem setRom_stepCtr : (s.setRom v).stepCtr = s.stepCtr := rfl
@[simp] theorem setRom_flagC : (s.setRom v).flagC = s.flagC := rfl
@[simp] theorem setRom_flagZ : (s.setRom v).flagZ = s.flagZ := rfl
@[simp] theorem setRom_pc : (s.setRom v).pc = s.pc := rfl
@[simp] theorem setRom_w : (s.setRom v).w = s.w := rfl
@[simp] theorem setRom_sp : (s.setRom v).sp = s.sp := rfl
@[simp] theorem setRom_tmp : (s.setRom v).tmp = s.tmp := rfl
@[simp] theorem setRom_imm : (s.setRom v).imm = s.imm := rfl
@[simp] theorem setRom_outA : (s.setRom v).outA = s.outA := rfl
@[simp] theorem setRom_outB : (s.setRom v).outB = s.outB := rfl
@[simp] theorem setRom_inDriven : (s.setRom v).inDriven = s.inDriven := rfl
@[simp] theorem setRom_inSamples : (s.setRom v).inSamples = s.inSamples := rfl
end

section
variable (v : Mem)
@[simp] theorem setProg_rom : (s.setProg v).rom = s.rom := rfl
@[simp] theorem setProg_prog : (s.setProg v).prog = v := rfl
@[simp] theorem setProg_gr : (s.setProg v).gr = s.gr := rfl
@[simp] theorem setProg_ir : (s.setProg v).ir = s.ir := rfl
@[simp] theorem setProg_stepCtr : (s.setProg v).stepCtr = s.stepCtr := rfl
@[simp] theorem setProg_flagC : (s.setProg v).flagC = s.flagC := rfl
@[simp] theorem setProg_flagZ : (s.setProg v).flagZ = s.flagZ := rfl
@[simp] theorem setProg_pc : (s.setProg v).pc = s.pc := rfl
@[simp] theorem setProg_w : (s.setProg v).w = s.w := rfl
@[simp] theorem setProg_sp : (s.setProg v).sp = s.sp := rfl
@[simp] theorem setProg_tmp : (s.setProg v).tmp = s.tmp := rfl
@[simp] theorem setProg_imm : (s.setProg v).imm = s.imm := rfl
@[simp] theorem setProg_outA : (s.setProg v).outA = s.outA := rfl
@[simp] theorem setProg_outB : (s.setProg v).outB = s.outB := rfl
@[simp] theorem setProg_inDriven : (s.setProg v).inDriven = s.inDriven := rfl
@[simp] theorem setProg_inSamples : (s.setProg v).inSamples = s.inSamples := rfl
end

section
variable (v : Mem)
@[simp] theorem setGr_rom : (s.setGr v).rom = s.rom := rfl
@[simp] theorem setGr_prog : (s.setGr v).prog = s.prog := rfl
@[simp] theorem setGr_gr : (s.setGr v).gr = v := rfl
@[simp] theorem setGr_ir : (s.setGr v).ir = s.ir := rfl
@[simp] theorem setGr_stepCtr : (s.setGr v).stepCtr = s.stepCtr := rfl
@[simp] theorem setGr_flagC : (s.setGr v).flagC = s.flagC := rfl
@[simp] theorem setGr_flagZ : (s.setGr v).flagZ = s.flagZ := rfl
@[simp] theorem setGr_pc : (s.setGr v).pc = s.pc := rfl
@[simp] theorem setGr_w : (s.setGr v).w = s.w := rfl
@[simp] theorem setGr_sp : (s.setGr v).sp = s.sp := rfl
@[simp] theorem setGr_tmp : (s.setGr v).tmp = s.tmp := rfl
@[simp] theorem setGr_imm : (s.setGr v).imm = s.imm := rfl
@[simp] theorem setGr_outA : (s.setGr v).outA = s.outA := rfl
@[simp] theorem setGr_outB : (s.setGr v).outB = s.outB := rfl
@[simp] theorem setGr_inDriven : (s.setGr v).inDriven = s.inDriven := rfl
@[simp] theorem setGr_inSamples : (s.setGr v).inSamples = s.inSamples := rfl
end

section
variable (v : Byte)
@[simp] theorem setIr_rom : (s.setIr v).rom = s.rom := rfl
@[simp] theorem setIr_prog : (s.setIr v).prog = s.prog := rfl
@[simp] theorem setIr_gr : (s.setIr v).gr = s.gr := rfl
@[simp] theorem setIr_ir : (s.setIr v).ir = v := rfl
@[simp] theorem setIr_stepCtr : (s.setIr v).stepCtr = s.stepCtr := rfl
@[simp] theorem setIr_flagC : (s.setIr v).flagC = s.flagC := rfl
@[simp] theorem setIr_flagZ : (s.setIr v).flagZ = s.flagZ := rfl
@[simp] theorem setIr_pc : (s.setIr v).pc = s.pc := rfl
@[simp] theorem setIr_w : (s.setIr v).w = s.w := rfl
@[simp] theorem setIr_sp : (s.setIr v).sp = s.sp := rfl
@[simp] theorem setIr_tmp : (s.setIr v).tmp = s.tmp := rfl
@[simp] theorem setIr_imm : (s.setIr v).imm = s.imm := rfl
@[simp] theorem setIr_outA : (s.setIr v).outA = s.outA := rfl
@[simp] theorem setIr_outB : (s.setIr v).outB = s.outB := rfl
@[simp] theorem setIr_inDriven : (s.setIr v).inDriven = s.inDriven := rfl
@[simp] theorem setIr_inSamples : (s.setIr v).inSamples = s.inSamples := rfl
end

section
variable (v : BitVec 4)
@[simp] theorem setStepCtr_rom : (s.setStepCtr v).rom = s.rom := rfl
@[simp] theorem setStepCtr_prog : (s.setStepCtr v).prog = s.prog := rfl
@[simp] theorem setStepCtr_gr : (s.setStepCtr v).gr = s.gr := rfl
@[simp] theorem setStepCtr_ir : (s.setStepCtr v).ir = s.ir := rfl
@[simp] theorem setStepCtr_stepCtr : (s.setStepCtr v).stepCtr = v := rfl
@[simp] theorem setStepCtr_flagC : (s.setStepCtr v).flagC = s.flagC := rfl
@[simp] theorem setStepCtr_flagZ : (s.setStepCtr v).flagZ = s.flagZ := rfl
@[simp] theorem setStepCtr_pc : (s.setStepCtr v).pc = s.pc := rfl
@[simp] theorem setStepCtr_w : (s.setStepCtr v).w = s.w := rfl
@[simp] theorem setStepCtr_sp : (s.setStepCtr v).sp = s.sp := rfl
@[simp] theorem setStepCtr_tmp : (s.setStepCtr v).tmp = s.tmp := rfl
@[simp] theorem setStepCtr_imm : (s.setStepCtr v).imm = s.imm := rfl
@[simp] theorem setStepCtr_outA : (s.setStepCtr v).outA = s.outA := rfl
@[simp] theorem setStepCtr_outB : (s.setStepCtr v).outB = s.outB := rfl
@[simp] theorem setStepCtr_inDriven : (s.setStepCtr v).inDriven = s.inDriven := rfl
@[simp] theorem setStepCtr_inSamples : (s.setStepCtr v).inSamples = s.inSamples := rfl
end

section
variable (v : Bool)
@[simp] theorem setFlagC_rom : (s.setFlagC v).rom = s.rom := rfl
@[simp] theorem setFlagC_prog : (s.setFlagC v).prog = s.prog := rfl
@[simp] theorem setFlagC_gr : (s.setFlagC v).gr = s.gr := rfl
@[simp] theorem setFlagC_ir : (s.setFlagC v).ir = s.ir := rfl
@[simp] theorem setFlagC_stepCtr : (s.setFlagC v).stepCtr = s.stepCtr := rfl
@[simp] theorem setFlagC_flagC : (s.setFlagC v).flagC = v := rfl
@[simp] theorem setFlagC_flagZ : (s.setFlagC v).flagZ = s.flagZ := rfl
@[simp] theorem setFlagC_pc : (s.setFlagC v).pc = s.pc := rfl
@[simp] theorem setFlagC_w : (s.setFlagC v).w = s.w := rfl
@[simp] theorem setFlagC_sp : (s.setFlagC v).sp = s.sp := rfl
@[simp] theorem setFlagC_tmp : (s.setFlagC v).tmp = s.tmp := rfl
@[simp] theorem setFlagC_imm : (s.setFlagC v).imm = s.imm := rfl
@[simp] theorem setFlagC_outA : (s.setFlagC v).outA = s.outA := rfl
@[simp] theorem setFlagC_outB : (s.setFlagC v).outB = s.outB := rfl
@[simp] theorem setFlagC_inDriven : (s.setFlagC v).inDriven = s.inDriven := rfl
@[simp] theorem setFlagC_inSamples : (s.setFlagC v).inSamples = s.inSamples := rfl
end

section
variable (v : Bool)
@[simp] theorem setFlagZ_rom : (s.setFlagZ v).rom = s.rom := rfl
@[simp] theorem setFlagZ_prog : (s.setFlagZ v).prog = s.prog := rfl
@[simp] theorem setFlagZ_gr : (s.setFlagZ v).gr = s.gr := rfl
@[simp] theorem setFlagZ_ir : (s.setFlagZ v).ir = s.ir := rfl
@[simp] theorem setFlagZ_stepCtr : (s.setFlagZ v).stepCtr = s.stepCtr := rfl
@[simp] theorem setFlagZ_flagC : (s.setFlagZ v).flagC = s.flagC := rfl
@[simp] theorem setFlagZ_flagZ : (s.setFlagZ v).flagZ = v := rfl
@[simp] theorem setFlagZ_pc : (s.setFlagZ v).pc = s.pc := rfl
@[simp] theorem setFlagZ_w : (s.setFlagZ v).w = s.w := rfl
@[simp] theorem setFlagZ_sp : (s.setFlagZ v).sp = s.sp := rfl
@[simp] theorem setFlagZ_tmp : (s.setFlagZ v).tmp = s.tmp := rfl
@[simp] theorem setFlagZ_imm : (s.setFlagZ v).imm = s.imm := rfl
@[simp] theorem setFlagZ_outA : (s.setFlagZ v).outA = s.outA := rfl
@[simp] theorem setFlagZ_outB : (s.setFlagZ v).outB = s.outB := rfl
@[simp] theorem setFlagZ_inDriven : (s.setFlagZ v).inDriven = s.inDriven := rfl
@[simp] theorem setFlagZ_inSamples : (s.setFlagZ v).inSamples = s.inSamples := rfl
end

section
variable (v : Addr)
@[simp] theorem setPc_rom : (s.setPc v).rom = s.rom := rfl
@[simp] theorem setPc_prog : (s.setPc v).prog = s.prog := rfl
@[simp] theorem setPc_gr : (s.setPc v).gr = s.gr := rfl
@[simp] theorem setPc_ir : (s.setPc v).ir = s.ir := rfl
@[simp] theorem setPc_stepCtr : (s.setPc v).stepCtr = s.stepCtr := rfl
@[simp] theorem setPc_flagC : (s.setPc v).flagC = s.flagC := rfl
@[simp] theorem setPc_flagZ : (s.setPc v).flagZ = s.flagZ := rfl
@[simp] theorem setPc_pc : (s.setPc v).pc = v := rfl
@[simp] theorem setPc_w : (s.setPc v).w = s.w := rfl
@[simp] theorem setPc_sp : (s.setPc v).sp = s.sp := rfl
@[simp] theorem setPc_tmp : (s.setPc v).tmp = s.tmp := rfl
@[simp] theorem setPc_imm : (s.setPc v).imm = s.imm := rfl
@[simp] theorem setPc_outA : (s.setPc v).outA = s.outA := rfl
@[simp] theorem setPc_outB : (s.setPc v).outB = s.outB := rfl
@[simp] theorem setPc_inDriven : (s.setPc v).inDriven = s.inDriven := rfl
@[simp] theorem setPc_inSamples : (s.setPc v).inSamples = s.inSamples := rfl
end

section
variable (v : Byte)
@[simp] theorem setW_rom : (s.setW v).rom = s.rom := rfl
@[simp] theorem setW_prog : (s.setW v).prog = s.prog := rfl
@[simp] theorem setW_gr : (s.setW v).gr = s.gr := rfl
@[simp] theorem setW_ir : (s.setW v).ir = s.ir := rfl
@[simp] theorem setW_stepCtr : (s.setW v).stepCtr = s.stepCtr := rfl
@[simp] theorem setW_flagC : (s.setW v).flagC = s.flagC := rfl
@[simp] theorem setW_flagZ : (s.setW v).flagZ = s.flagZ := rfl
@[simp] theorem setW_pc : (s.setW v).pc = s.pc := rfl
@[simp] theorem setW_w : (s.setW v).w = v := rfl
@[simp] theorem setW_sp : (s.setW v).sp = s.sp := rfl
@[simp] theorem setW_tmp : (s.setW v).tmp = s.tmp := rfl
@[simp] theorem setW_imm : (s.setW v).imm = s.imm := rfl
@[simp] theorem setW_outA : (s.setW v).outA = s.outA := rfl
@[simp] theorem setW_outB : (s.setW v).outB = s.outB := rfl
@[simp] theorem setW_inDriven : (s.setW v).inDriven = s.inDriven := rfl
@[simp] theorem setW_inSamples : (s.setW v).inSamples = s.inSamples := rfl
end

section
variable (v : Byte)
@[simp] theorem setSp_rom : (s.setSp v).rom = s.rom := rfl
@[simp] theorem setSp_prog : (s.setSp v).prog = s.prog := rfl
@[simp] theorem setSp_gr : (s.setSp v).gr = s.gr := rfl
@[simp] theorem setSp_ir : (s.setSp v).ir = s.ir := rfl
@[simp] theorem setSp_stepCtr : (s.setSp v).stepCtr = s.stepCtr := rfl
@[simp] theorem setSp_flagC : (s.setSp v).flagC = s.flagC := rfl
@[simp] theorem setSp_flagZ : (s.setSp v).flagZ = s.flagZ := rfl
@[simp] theorem setSp_pc : (s.setSp v).pc = s.pc := rfl
@[simp] theorem setSp_w : (s.setSp v).w = s.w := rfl
@[simp] theorem setSp_sp : (s.setSp v).sp = v := rfl
@[simp] theorem setSp_tmp : (s.setSp v).tmp = s.tmp := rfl
@[simp] theorem setSp_imm : (s.setSp v).imm = s.imm := rfl
@[simp] theorem setSp_outA : (s.setSp v).outA = s.outA := rfl
@[simp] theorem setSp_outB : (s.setSp v).outB = s.outB := rfl
@[simp] theorem setSp_inDriven : (s.setSp v).inDriven = s.inDriven := rfl
@[simp] theorem setSp_inSamples : (s.setSp v).inSamples = s.inSamples := rfl
end

section
variable (v : Byte)
@[simp] theorem setTmp_rom : (s.setTmp v).rom = s.rom := rfl
@[simp] theorem setTmp_prog : (s.setTmp v).prog = s.prog := rfl
@[simp] theorem setTmp_gr : (s.setTmp v).gr = s.gr := rfl
@[simp] theorem setTmp_ir : (s.setTmp v).ir = s.ir := rfl
@[simp] theorem setTmp_stepCtr : (s.setTmp v).stepCtr = s.stepCtr := rfl
@[simp] theorem setTmp_flagC : (s.setTmp v).flagC = s.flagC := rfl
@[simp] theorem setTmp_flagZ : (s.setTmp v).flagZ = s.flagZ := rfl
@[simp] theorem setTmp_pc : (s.setTmp v).pc = s.pc := rfl
@[simp] theorem setTmp_w : (s.setTmp v).w = s.w := rfl
@[simp] theorem setTmp_sp : (s.setTmp v).sp = s.sp := rfl
@[simp] theorem setTmp_tmp : (s.setTmp v).tmp = v := rfl
@[simp] theorem setTmp_imm : (s.setTmp v).imm = s.imm := rfl
@[simp] theorem setTmp_outA : (s.setTmp v).outA = s.outA := rfl
@[simp] theorem setTmp_outB : (s.setTmp v).outB = s.outB := rfl
@[simp] theorem setTmp_inDriven : (s.setTmp v).inDriven = s.inDriven := rfl
@[simp] theorem setTmp_inSamples : (s.setTmp v).inSamples = s.inSamples := rfl
end

section
variable (v : Byte)
@[simp] theorem setImm_rom : (s.setImm v).rom = s.rom := rfl
@[simp] theorem setImm_prog : (s.setImm v).prog = s.prog := rfl
@[simp] theorem setImm_gr : (s.setImm v).gr = s.gr := rfl
@[simp] theorem setImm_ir : (s.setImm v).ir = s.ir := rfl
@[simp] theorem setImm_stepCtr : (s.setImm v).stepCtr = s.stepCtr := rfl
@[simp] theorem setImm_flagC : (s.setImm v).flagC = s.flagC := rfl
@[simp] theorem setImm_flagZ : (s.setImm v).flagZ = s.flagZ := rfl
@[simp] theorem setImm_pc : (s.setImm v).pc = s.pc := rfl
@[simp] theorem setImm_w : (s.setImm v).w = s.w := rfl
@[simp] theorem setImm_sp : (s.setImm v).sp = s.sp := rfl
@[simp] theorem setImm_tmp : (s.setImm v).tmp = s.tmp := rfl
@[simp] theorem setImm_imm : (s.setImm v).imm = v := rfl
@[simp] theorem setImm_outA : (s.setImm v).outA = s.outA := rfl
@[simp] theorem setImm_outB : (s.setImm v).outB = s.outB := rfl
@[simp] theorem setImm_inDriven : (s.setImm v).inDriven = s.inDriven := rfl
@[simp] theorem setImm_inSamples : (s.setImm v).inSamples = s.inSamples := rfl
end

section
variable (v : Byte)
@[simp] theorem setOutA_rom : (s.setOutA v).rom = s.rom := rfl
@[simp] theorem setOutA_prog : (s.setOutA v).prog = s.prog := rfl
@[simp] theorem setOutA_gr : (s.setOutA v).gr = s.gr := rfl
@[simp] theorem setOutA_ir : (s.setOutA v).ir = s.ir := rfl
@[simp] theorem setOutA_stepCtr : (s.setOutA v).stepCtr = s.stepCtr := rfl
@[simp] theorem setOutA_flagC : (s.setOutA v).flagC = s.flagC := rfl
@[simp] theorem setOutA_flagZ : (s.setOutA v).flagZ = s.flagZ := rfl
@[simp] theorem setOutA_pc : (s.setOutA v).pc = s.pc := rfl
@[simp] theorem setOutA_w : (s.setOutA v).w = s.w := rfl
@[simp] theorem setOutA_sp : (s.setOutA v).sp = s.sp := rfl
@[simp] theorem setOutA_tmp : (s.setOutA v).tmp = s.tmp := rfl
@[simp] theorem setOutA_imm : (s.setOutA v).imm = s.imm := rfl
@[simp] theorem setOutA_outA : (s.setOutA v).outA = v := rfl
@[simp] theorem setOutA_outB : (s.setOutA v).outB = s.outB := rfl
@[simp] theorem setOutA_inDriven : (s.setOutA v).inDriven = s.inDriven := rfl
@[simp] theorem setOutA_inSamples : (s.setOutA v).inSamples = s.inSamples := rfl
end

section
variable (v : Byte)
@[simp] theorem setOutB_rom : (s.setOutB v).rom = s.rom := rfl
@[simp] theorem setOutB_prog : (s.setOutB v).prog = s.prog := rfl
@[simp] theorem setOutB_gr : (s.setOutB v).gr = s.gr := rfl
@[simp] theorem setOutB_ir : (s.setOutB v).ir = s.ir := rfl
@[simp] theorem setOutB_stepCtr : (s.setOutB v).stepCtr = s.stepCtr := rfl
@[simp] theorem setOutB_flagC : (s.setOutB v).flagC = s.flagC := rfl
@[simp] theorem setOutB_flagZ : (s.setOutB v).flagZ = s.flagZ := rfl
@[simp] theorem setOutB_pc : (s.setOutB v).pc = s.pc := rfl
@[simp] theorem setOutB_w : (s.setOutB v).w = s.w := rfl
@[simp] theorem setOutB_sp : (s.setOutB v).sp = s.sp := rfl
@[simp] theorem setOutB_tmp : (s.setOutB v).tmp = s.tmp := rfl
@[simp] theorem setOutB_imm : (s.setOutB v).imm = s.imm := rfl
@[simp] theorem setOutB_outA : (s.setOutB v).outA = s.outA := rfl
@[simp] theorem setOutB_outB : (s.setOutB v).outB = v := rfl
@[simp] theorem setOutB_inDriven : (s.setOutB v).inDriven = s.inDriven := rfl
@[simp] theorem setOutB_inSamples : (s.setOutB v).inSamples = s.inSamples := rfl
end

section
variable (v : List Byte)
@[simp] theorem setInDriven_rom : (s.setInDriven v).rom = s.rom := rfl
@[simp] theorem setInDriven_prog : (s.setInDriven v).prog = s.prog := rfl
@[simp] theorem setInDriven_gr : (s.setInDriven v).gr = s.gr := rfl
@[simp] theorem setInDriven_ir : (s.setInDriven v).ir = s.ir := rfl
@[simp] theorem setInDriven_stepCtr : (s.setInDriven v).stepCtr = s.stepCtr := rfl
@[simp] theorem setInDriven_flagC : (s.setInDriven v).flagC = s.flagC := rfl
@[simp] theorem setInDriven_flagZ : (s.setInDriven v).flagZ = s.flagZ := rfl
@[simp] theorem setInDriven_pc : (s.setInDriven v).pc = s.pc := rfl
@[simp] theorem setInDriven_w : (s.setInDriven v).w = s.w := rfl
@[simp] theorem setInDriven_sp : (s.setInDriven v).sp = s.sp := rfl
@[simp] theorem setInDriven_tmp : (s.setInDriven v).tmp = s.tmp := rfl
@[simp] theorem setInDriven_imm : (s.setInDriven v).imm = s.imm := rfl
@[simp] theorem setInDriven_outA : (s.setInDriven v).outA = s.outA := rfl
@[simp] theorem setInDriven_outB : (s.setInDriven v).outB = s.outB := rfl
@[simp] theorem setInDriven_inDriven : (s.setInDriven v).inDriven = v := rfl
@[simp] theorem setInDriven_inSamples : (s.setInDriven v).inSamples = s.inSamples := rfl
end

section
variable (v : Nat)
@[simp] theorem setInSamples_rom : (s.setInSamples v).rom = s.rom := rfl
@[simp] theorem setInSamples_prog : (s.setInSamples v).prog = s.prog := rfl
@[simp] theorem setInSamples_gr : (s.setInSamples v).gr = s.gr := rfl
@[simp] theorem setInSamples_ir : (s.setInSamples v).ir = s.ir := rfl
@[simp] theorem setInSamples_stepCtr : (s.setInSamples v).stepCtr = s.stepCtr := rfl
@[simp] theorem setInSamples_flagC : (s.setInSamples v).flagC = s.flagC := rfl
@[simp] theorem setInSamples_flagZ : (s.setInSamples v).flagZ = s.flagZ := rfl
@[simp] theorem setInSamples_pc : (s.setInSamples v).pc = s.pc := rfl
@[simp] theorem setInSamples_w : (s.setInSamples v).w = s.w := rfl
@[simp] theorem setInSamples_sp : (s.setInSamples v).sp = s.sp := rfl
@[simp] theorem setInSamples_tmp : (s.setInSamples v).tmp = s.tmp := rfl
@[simp] theorem setInSamples_imm : (s.setInSamples v).imm = s.imm := rfl
@[simp] theorem setInSamples_outA : (s.setInSamples v).outA = s.outA := rfl
@[simp] theorem setInSamples_outB : (s.setInSamples v).outB = s.outB := rfl
@[simp] theorem setInSamples_inDriven : (s.setInSamples v).inDriven = s.inDriven := rfl
@[simp] theorem setInSamples_inSamples : (s.setInSamples v).inSamples = v := rfl
end

end Sys2Proof.Machine.State
end

