-- ==== Sys2Proof/Laws/Ops.lean ====
section
/-!
SUPPORT. One lemma per shared operation that says everything it does, so that later proofs cite it and
never unfold the operation; and what each operation over operands leaves of every field.
-/

namespace Sys2Proof.Machine

/-! ## Counter, latch and sequencer operations: the whole next state -/

theorem pcInc_eq (s : State) : pcInc s = { s with pc := s.pc + 1 } := rfl

theorem latchImm_eq (b : Byte) (s : State) :
    latchImm b s = { s with pc := s.pc + 1, imm := b } := rfl

theorem immFetch_eq (s : State) :
    immFetch s = { s with pc := s.pc + 1, imm := s.progByte (s.pc + 1) } := rfl

theorem immToTmp_eq (s : State) : immToTmp s = { s with tmp := s.imm } := rfl

theorem tmpToPcL_eq (s : State) :
    tmpToPcL s = { s with pc := s.pc.extractLsb' 8 8 ++ s.tmp } := rfl

theorem immToPcH_eq (s : State) :
    immToPcH s = { s with pc := s.imm ++ s.pc.extractLsb' 0 8 } := rfl

theorem resetSequencer_eq (s : State) :
    resetSequencer s = { s with ir := s.progByte s.pc, stepCtr := 0 } := rfl

theorem endInstr_eq (s : State) :
    endInstr s = { s with pc := s.pc + 1, ir := s.progByte (s.pc + 1), stepCtr := 0 } := rfl

theorem State.powerOn_eq (s : State) :
    s.powerOn = { s with pc := 0, ir := s.progByte 0, stepCtr := 0 } := rfl

/-- Placing the two bytes of a target makes the target. -/
theorem targetOf_bytes (target : Addr) : targetOf (targetLo target) (targetHi target) = target := by
  apply BitVec.eq_of_getLsbD_eq
  intro i hi
  simp only [targetOf, targetLo, targetHi, BitVec.getLsbD_append, BitVec.getLsbD_extractLsb']
  by_cases h : i < 8
  · simp [h]
  · have h1 : i - 8 < 8 := by omega
    have h2 : 8 + (i - 8) = i := by omega
    simp [h, h1, h2]

/-! ## Operand reads and accumulator writes -/

theorem State.writeAlu_eq (s : State) (r : Byte × Bool) :
    s.writeAlu r = { s with w := r.1, flagC := r.2, flagZ := r.1 == 0 } := rfl

theorem State.sampleIn_eq (s : State) :
    s.sampleIn = { s with inDriven := s.inDriven.tail, inSamples := s.inSamples + 1 } := rfl

/-- An operand other than `IN` is read without effect. -/
theorem operandRead_eq (src : Source) (s : State) :
    operandRead src s = if src = .inPort then s.sampleIn else s := by
  cases src <;> rfl

/-- `W` and both flags are written through the ALU, one sample is taken for `IN`, nothing else
changes. -/
theorem aluToW_eq (op : AluOp) (src : Source) (s : State) :
    aluToW op src s = { s with
      w := (aluResult op s.w (operandValue src s)).1
      flagC := (aluResult op s.w (operandValue src s)).2
      flagZ := (aluResult op s.w (operandValue src s)).1 == 0
      inDriven := if src = .inPort then s.inDriven.tail else s.inDriven
      inSamples := if src = .inPort then s.inSamples + 1 else s.inSamples } := by
  cases src <;> rfl

/-- A register-file write changes the register file alone. -/
theorem State.setGrByte_eq (s : State) (i v : Byte) :
    s.setGrByte i v = { s with gr := Mem.write .gr s.gr i.toNat v } := rfl

/-- The accumulator is copied to the destination named, nothing else changes. -/
theorem moveW_eq (dst : Dest) (s : State) :
    moveW dst s = { s with
      sp := if dst = .sp then s.w else s.sp
      gr := if dst = .regImm then Mem.write .gr s.gr s.imm.toNat s.w
        else if dst = .regSp then Mem.write .gr s.gr s.sp.toNat s.w else s.gr
      outA := if dst = .outA then s.w else s.outA
      outB := if dst = .outB then s.w else s.outB } := by
  cases dst <;> rfl

/-! ## The ALU -/

theorem addSum_toNat (w x : Byte) : (addSum w x).toNat = w.toNat + x.toNat := by
  have := w.isLt
  have := x.isLt
  simp only [addSum, BitVec.toNat_add, BitVec.toNat_setWidth]
  omega

theorem subSum_toNat (w x : Byte) : (subSum w x).toNat = w.toNat + (256 - x.toNat) := by
  have := w.isLt
  have := x.isLt
  have one : (1 : BitVec 9).toNat = 1 := rfl
  simp only [subSum, BitVec.toNat_add, BitVec.toNat_setWidth, BitVec.toNat_not, one]
  omega

theorem negSum_toNat (x : Byte) : (negSum x).toNat = 256 - x.toNat := by
  have := x.isLt
  have one : (1 : BitVec 9).toNat = 1 := rfl
  simp only [negSum, BitVec.toNat_add, BitVec.toNat_setWidth, BitVec.toNat_not, one]
  omega

/-- The carry-out of a 9-bit sum is set exactly when the sum reaches 256. -/
theorem sumResult_carry (s : BitVec 9) : (sumResult s).2 = decide (256 ≤ s.toNat) := by
  have := s.isLt
  rw [sumResult, BitVec.getLsbD, Nat.testBit_eq_decide_div_mod_eq]
  exact decide_eq_decide.mpr (by omega)

theorem sumResult_toNat (s : BitVec 9) : (sumResult s).1.toNat = s.toNat % 256 := by
  simp [sumResult, BitVec.toNat_setWidth]

/-! ## The flag state and the control word -/

/-- With the generated ROM the control word is the generated table's. -/
theorem State.controlWord_generated (s : State) (h : s.rom = []) :
    s.controlWord = romByteAt (romAddr s.ir s.flagState s.stepCtr) := by
  simp [State.controlWord, State.romWord, h, Mem.read, Mem.find, Space.fill]

/-- A micro-step with the reset bit is the sequencer's reset. -/
theorem microStep_reset (m : MicroStep) (s : State) (h : m.reset = true) :
    microStep m s = resetSequencer s := by
  simp [microStep, h]

/-- Any other micro-step executes its transfer and moves `STEP` on. -/
theorem microStep_ordinary (m : MicroStep) (s : State) (h : m.reset = false) :
    microStep m s = (execTransfer m.transfer m.alu s).setStepCtr (s.stepCtr + 1) := by
  simp [microStep, h]

end Sys2Proof.Machine
end

