-- ==== Sys2Proof/Laws/Sequencer.lean ====
section
/-!
SUPPORT. What a clock cycle does, in the terms of the control word it reads; what a transfer leaves of
the fields the sequencer itself owns; and how cycles chain.
-/

namespace Sys2Proof.Machine

/-- A cycle runs the micro-step its control word stands for. -/
theorem cycle_of_decode (s : State) (m : MicroStep) (h : decodeWord s.controlWord = some m) :
    cycle s = .next (microStep m s) := by
  simp [cycle, h]

/-- A cycle that answers a next state ran a micro-step. -/
theorem cycle_next (s t : State) (h : cycle s = .next t) :
    ∃ m, decodeWord s.controlWord = some m ∧ t = microStep m s := by
  unfold cycle at h
  split at h
  · rename_i m hm
    exact ⟨m, hm, by simpa using h.symm⟩
  · cases h

/-- With the generated ROM a cycle reads the generated table. -/
theorem cycle_of_romByte (s : State) (word : Byte) (m : MicroStep) (hr : s.rom = [])
    (hw : romByte s.ir s.flagState s.stepCtr = word) (hm : decodeWord word = some m) :
    cycle s = .next (microStep m s) :=
  cycle_of_decode s m (by rw [s.controlWord_generated hr, romByteAt_romAddr, hw, hm])

/-- No transfer writes the ROM, program memory, `IR` or `STEP`. -/
theorem execTransfer_frame (transfer : Transfer) (op : AluOp) (s : State) :
    (execTransfer transfer op s).rom = s.rom ∧ (execTransfer transfer op s).prog = s.prog ∧
    (execTransfer transfer op s).ir = s.ir ∧
    (execTransfer transfer op s).stepCtr = s.stepCtr := by
  cases transfer <;> simp only [execTransfer, aluToW_eq, moveW_eq, immToTmp_eq, tmpToPcL_eq,
    immToPcH_eq, immFetch_eq, pcInc_eq, and_self]

theorem cycles_succ {n : Nat} {s t : State} (h : cycle s = .next t) :
    cycles (n + 1) s = cycles n t := by
  simp [cycles, h]

/-- The closing reset step ends a run to the next reset step. -/
theorem runToReset_of_reset {n : Nat} {s t : State} (h : cycle s = .next t)
    (hw : s.controlWord = 0x80) : runToReset (n + 1) s = .next t := by
  rw [runToReset, h]
  exact if_pos hw

/-- Any other legal word leaves it to go on. -/
theorem runToReset_of_ordinary {n : Nat} {s t : State} (h : cycle s = .next t)
    (hw : s.controlWord ≠ 0x80) : runToReset (n + 1) s = runToReset n t := by
  rw [runToReset, h]
  exact if_neg hw

/-- An instruction with one operand byte ends two bytes on. -/
theorem pc_add_two (pc : Addr) : pc + 1 + 1 = pc + 2 := by
  rw [BitVec.add_assoc]
  rfl

/-- A jump not taken ends three bytes on. -/
theorem pc_add_three (pc : Addr) : pc + 1 + 1 + 1 = pc + 3 := by
  rw [pc_add_two, BitVec.add_assoc]
  rfl

end Sys2Proof.Machine
end

