-- ==== Sys2Proof/Tests/Slice0.lean ====
section
/-!
SUPPORT. Our own tests. Expected values are the vectors of spec/95_test_vectors.md (V2 to V8) or the
encodings of 30_encoding.md R116, written out by hand. The last part shows, for every statement that has
hypotheses, concrete values that meet them all.
-/

namespace Sys2Proof.Tests

open Sys2Proof.Machine Sys2Proof.Stated

/-! ## WellFormed -/

/-- The one check: a filler's opcode is not a real instruction's (R302). -/
theorem test_wellFormed_refuses_real_opcode_as_filler :
    Instr.wellFormed (.filler 0x41) = false := rfl

theorem test_wellFormed_accepts_first_filler : Instr.wellFormed (.filler 0x42) = true := rfl

/-! ## Decoding: one word per constructor, from the opcode map R116 -/

theorem test_decode_wadd :
    decode [0x00] = .ok (.waddSp, []) ∧
    decode [0x01] = .ok (.waddWbSp, []) ∧
    decode [0x02, 0x9C] = .ok (.waddRegImm 0x9C, []) ∧
    decode [0x03, 0x9C] = .ok (.waddWbRegImm 0x9C, []) ∧
    decode [0x04] = .ok (.waddRegSp, []) ∧
    decode [0x05] = .ok (.waddWbRegSp, []) ∧
    decode [0x06, 0x9C] = .ok (.waddImm 0x9C, []) ∧
    decode [0x07] = .ok (.waddIn, []) :=
  ⟨rfl, rfl, rfl, rfl, rfl, rfl, rfl, rfl⟩

theorem test_decode_wsub :
    decode [0x08] = .ok (.wsubSp, []) ∧
    decode [0x09] = .ok (.wsubWbSp, []) ∧
    decode [0x0A, 0x9C] = .ok (.wsubRegImm 0x9C, []) ∧
    decode [0x0B, 0x9C] = .ok (.wsubWbRegImm 0x9C, []) ∧
    decode [0x0C] = .ok (.wsubRegSp, []) ∧
    decode [0x0D] = .ok (.wsubWbRegSp, []) ∧
    decode [0x0E, 0x9C] = .ok (.wsubImm 0x9C, []) ∧
    decode [0x0F] = .ok (.wsubIn, []) :=
  ⟨rfl, rfl, rfl, rfl, rfl, rfl, rfl, rfl⟩

theorem test_decode_wneg :
    decode [0x10] = .ok (.wnegSp, []) ∧
    decode [0x11] = .ok (.wnegWbSp, []) ∧
    decode [0x12, 0x9C] = .ok (.wnegRegImm 0x9C, []) ∧
    decode [0x13, 0x9C] = .ok (.wnegWbRegImm 0x9C, []) ∧
    decode [0x14] = .ok (.wnegRegSp, []) ∧
    decode [0x15] = .ok (.wnegWbRegSp, []) ∧
    decode [0x16, 0x9C] = .ok (.wnegImm 0x9C, []) ∧
    decode [0x17] = .ok (.wnegIn, []) :=
  ⟨rfl, rfl, rfl, rfl, rfl, rfl, rfl, rfl⟩

theorem test_decode_wand :
    decode [0x18] = .ok (.wandSp, []) ∧
    decode [0x19] = .ok (.wandWbSp, []) ∧
    decode [0x1A, 0x9C] = .ok (.wandRegImm 0x9C, []) ∧
    decode [0x1B, 0x9C] = .ok (.wandWbRegImm 0x9C, []) ∧
    decode [0x1C] = .ok (.wandRegSp, []) ∧
    decode [0x1D] = .ok (.wandWbRegSp, []) ∧
    decode [0x1E, 0x9C] = .ok (.wandImm 0x9C, []) ∧
    decode [0x1F] = .ok (.wandIn, []) :=
  ⟨rfl, rfl, rfl, rfl, rfl, rfl, rfl, rfl⟩

theorem test_decode_wor :
    decode [0x20] = .ok (.worSp, []) ∧
    decode [0x21] = .ok (.worWbSp, []) ∧
    decode [0x22, 0x9C] = .ok (.worRegImm 0x9C, []) ∧
    decode [0x23, 0x9C] = .ok (.worWbRegImm 0x9C, []) ∧
    decode [0x24] = .ok (.worRegSp, []) ∧
    decode [0x25] = .ok (.worWbRegSp, []) ∧
    decode [0x26, 0x9C] = .ok (.worImm 0x9C, []) ∧
    decode [0x27] = .ok (.worIn, []) :=
  ⟨rfl, rfl, rfl, rfl, rfl, rfl, rfl, rfl⟩

theorem test_decode_wxor :
    decode [0x28] = .ok (.wxorSp, []) ∧
    decode [0x29] = .ok (.wxorWbSp, []) ∧
    decode [0x2A, 0x9C] = .ok (.wxorRegImm 0x9C, []) ∧
    decode [0x2B, 0x9C] = .ok (.wxorWbRegImm 0x9C, []) ∧
    decode [0x2C] = .ok (.wxorRegSp, []) ∧
    decode [0x2D] = .ok (.wxorWbRegSp, []) ∧
    decode [0x2E, 0x9C] = .ok (.wxorImm 0x9C, []) ∧
    decode [0x2F] = .ok (.wxorIn, []) :=
  ⟨rfl, rfl, rfl, rfl, rfl, rfl, rfl, rfl⟩

theorem test_decode_wload :
    decode [0x30] = .ok (.wloadSp, []) ∧
    decode [0x31, 0x9C] = .ok (.wloadRegImm 0x9C, []) ∧
    decode [0x32] = .ok (.wloadRegSp, []) ∧
    decode [0x33, 0x9C] = .ok (.wloadImm 0x9C, []) ∧
    decode [0x34] = .ok (.wloadIn, []) :=
  ⟨rfl, rfl, rfl, rfl, rfl⟩

theorem test_decode_wstore :
    decode [0x35] = .ok (.wstoreSp, []) ∧
    decode [0x36, 0x9C] = .ok (.wstoreRegImm 0x9C, []) ∧
    decode [0x37] = .ok (.wstoreRegSp, []) ∧
    decode [0x38] = .ok (.wstoreOutA, []) ∧
    decode [0x39] = .ok (.wstoreOutB, []) :=
  ⟨rfl, rfl, rfl, rfl, rfl⟩

theorem test_decode_jumps :
    decode [0x3A, 0x34, 0x12] = .ok (.jmp 0x1234, []) ∧
    decode [0x3B, 0x34, 0x12] = .ok (.jz 0x1234, []) ∧
    decode [0x3C, 0x34, 0x12] = .ok (.jnz 0x1234, []) ∧
    decode [0x3D, 0x34, 0x12] = .ok (.jc 0x1234, []) ∧
    decode [0x3E, 0x34, 0x12] = .ok (.jnc 0x1234, []) ∧
    decode [0x3F, 0x34, 0x12] = .ok (.jzc 0x1234, []) :=
  ⟨rfl, rfl, rfl, rfl, rfl, rfl⟩

theorem test_decode_nop_halt :
    decode [0x40] = .ok (.nop, []) ∧
    decode [0x41] = .ok (.halt, []) :=
  ⟨rfl, rfl⟩

theorem test_decode_filler : decode [0x99, 0x10] = .ok (.filler 0x99, [0x10]) := rfl
theorem test_decode_last_filler : decode [0xFF] = .ok (.filler 0xFF, []) := rfl
theorem test_decode_refuses_nothing : decode [] = .error .noOpcode := rfl
theorem test_decode_refuses_half_target : decode [0x3A, 0x34] = .error (.operandMissing 0x3A) := rfl
theorem test_tableWord_jump : decodeTableWord 24 0x12343B = some (.jz 0x1234) := rfl
theorem test_tableWord_operand_without_bits : decodeTableWord 8 0x06 = some (.waddImm 0x00) := rfl

/-! ## One step of every instruction -/

/-- The common start state of V5, with an instruction's bytes at `0100`. -/
def start (bytes : List Byte) : State :=
  resetSequencer (State.placeBytes
    { State.reset with
      pc := 0x0100, w := 0x3C, sp := 0x40, gr := [(0x10, 0x22), (0x40, 0x11)], inDriven := [0x5A] }
    0x0100 bytes)

/-- The next state of an outcome, the given one where there is none. -/
def nextOr (d : State) : Host.Outcome State Fault Refusal → State
  | .next t => t
  | _ => d

/-- Whether an outcome is a next state. -/
def isNext : Host.Outcome State Fault Refusal → Bool
  | .next _ => true
  | _ => false

theorem of_isNext {out : Host.Outcome State Fault Refusal} (d : State) (h : isNext out = true) :
    out = .next (nextOr d out) := by
  cases out <;> first | rfl | cases h

/-- The state one step leaves; the start state where the step stops. -/
def after (s : State) : State := nextOr s (step s)

/-- What V5 lists of a state: `W`, `C`, `Z`, `SP`, `GR[10]`, `GR[40]`, `OUT_A`, `OUT_B`, `IMM`, `PC`. -/
structure Seen where
  w : Byte := 0x3C
  c : Bool := false
  z : Bool := false
  sp : Byte := 0x40
  gr10 : Byte := 0x22
  gr40 : Byte := 0x11
  outA : Byte := 0x00
  outB : Byte := 0x00
  imm : Byte := 0x00
  pc : Addr
  deriving DecidableEq, Repr

def seen (s : State) : Seen :=
  ⟨s.w, s.flagC, s.flagZ, s.sp, s.grByte 0x10, s.grByte 0x40, s.outA, s.outB, s.imm, s.pc⟩

/-! V5: every line lists only what changed. -/

theorem test_step_wadd :
    [[0x00], [0x01], [0x02, 0x10], [0x03, 0x10], [0x04],
      [0x05], [0x06, 0x10], [0x07]].map (fun bytes => seen (after (start bytes))) = [
      { w := 0x7C, c := false, z := false, pc := 0x0101 },
      { w := 0x7C, c := false, z := false, sp := 0x7C, pc := 0x0101 },
      { w := 0x5E, c := false, z := false, imm := 0x10, pc := 0x0102 },
      { w := 0x5E, c := false, z := false, gr10 := 0x5E, imm := 0x10, pc := 0x0102 },
      { w := 0x4D, c := false, z := false, pc := 0x0101 },
      { w := 0x4D, c := false, z := false, gr40 := 0x4D, pc := 0x0101 },
      { w := 0x4C, c := false, z := false, imm := 0x10, pc := 0x0102 },
      { w := 0x96, c := false, z := false, pc := 0x0101 }] := by decide +kernel

theorem test_step_wsub :
    [[0x08], [0x09], [0x0A, 0x10], [0x0B, 0x10], [0x0C],
      [0x0D], [0x0E, 0x10], [0x0F]].map (fun bytes => seen (after (start bytes))) = [
      { w := 0xFC, c := false, z := false, pc := 0x0101 },
      { w := 0xFC, c := false, z := false, sp := 0xFC, pc := 0x0101 },
      { w := 0x1A, c := true, z := false, imm := 0x10, pc := 0x0102 },
      { w := 0x1A, c := true, z := false, gr10 := 0x1A, imm := 0x10, pc := 0x0102 },
      { w := 0x2B, c := true, z := false, pc := 0x0101 },
      { w := 0x2B, c := true, z := false, gr40 := 0x2B, pc := 0x0101 },
      { w := 0x2C, c := true, z := false, imm := 0x10, pc := 0x0102 },
      { w := 0xE2, c := false, z := false, pc := 0x0101 }] := by decide +kernel

theorem test_step_wneg :
    [[0x10], [0x11], [0x12, 0x10], [0x13, 0x10], [0x14],
      [0x15], [0x16, 0x10], [0x17]].map (fun bytes => seen (after (start bytes))) = [
      { w := 0xC0, c := false, z := false, pc := 0x0101 },
      { w := 0xC0, c := false, z := false, sp := 0xC0, pc := 0x0101 },
      { w := 0xDE, c := false, z := false, imm := 0x10, pc := 0x0102 },
      { w := 0xDE, c := false, z := false, gr10 := 0xDE, imm := 0x10, pc := 0x0102 },
      { w := 0xEF, c := false, z := false, pc := 0x0101 },
      { w := 0xEF, c := false, z := false, gr40 := 0xEF, pc := 0x0101 },
      { w := 0xF0, c := false, z := false, imm := 0x10, pc := 0x0102 },
      { w := 0xA6, c := false, z := false, pc := 0x0101 }] := by decide +kernel

theorem test_step_wand :
    [[0x18], [0x19], [0x1A, 0x10], [0x1B, 0x10], [0x1C],
      [0x1D], [0x1E, 0x10], [0x1F]].map (fun bytes => seen (after (start bytes))) = [
      { w := 0x00, c := false, z := true, pc := 0x0101 },
      { w := 0x00, c := false, z := true, sp := 0x00, pc := 0x0101 },
      { w := 0x20, c := false, z := false, imm := 0x10, pc := 0x0102 },
      { w := 0x20, c := false, z := false, gr10 := 0x20, imm := 0x10, pc := 0x0102 },
      { w := 0x10, c := false, z := false, pc := 0x0101 },
      { w := 0x10, c := false, z := false, gr40 := 0x10, pc := 0x0101 },
      { w := 0x10, c := false, z := false, imm := 0x10, pc := 0x0102 },
      { w := 0x18, c := false, z := false, pc := 0x0101 }] := by decide +kernel

theorem test_step_wor :
    [[0x20], [0x21], [0x22, 0x10], [0x23, 0x10], [0x24],
      [0x25], [0x26, 0x10], [0x27]].map (fun bytes => seen (after (start bytes))) = [
      { w := 0x7C, c := false, z := false, pc := 0x0101 },
      { w := 0x7C, c := false, z := false, sp := 0x7C, pc := 0x0101 },
      { w := 0x3E, c := false, z := false, imm := 0x10, pc := 0x0102 },
      { w := 0x3E, c := false, z := false, gr10 := 0x3E, imm := 0x10, pc := 0x0102 },
      { w := 0x3D, c := false, z := false, pc := 0x0101 },
      { w := 0x3D, c := false, z := false, gr40 := 0x3D, pc := 0x0101 },
      { w := 0x3C, c := false, z := false, imm := 0x10, pc := 0x0102 },
      { w := 0x7E, c := false, z := false, pc := 0x0101 }] := by decide +kernel

theorem test_step_wxor :
    [[0x28], [0x29], [0x2A, 0x10], [0x2B, 0x10], [0x2C],
      [0x2D], [0x2E, 0x10], [0x2F]].map (fun bytes => seen (after (start bytes))) = [
      { w := 0x7C, c := false, z := false, pc := 0x0101 },
      { w := 0x7C, c := false, z := false, sp := 0x7C, pc := 0x0101 },
      { w := 0x1E, c := false, z := false, imm := 0x10, pc := 0x0102 },
      { w := 0x1E, c := false, z := false, gr10 := 0x1E, imm := 0x10, pc := 0x0102 },
      { w := 0x2D, c := false, z := false, pc := 0x0101 },
      { w := 0x2D, c := false, z := false, gr40 := 0x2D, pc := 0x0101 },
      { w := 0x2C, c := false, z := false, imm := 0x10, pc := 0x0102 },
      { w := 0x66, c := false, z := false, pc := 0x0101 }] := by decide +kernel

theorem test_step_wload :
    [[0x30], [0x31, 0x10], [0x32],
      [0x33, 0x10], [0x34]].map (fun bytes => seen (after (start bytes))) = [
      { w := 0x40, c := false, z := false, pc := 0x0101 },
      { w := 0x22, c := false, z := false, imm := 0x10, pc := 0x0102 },
      { w := 0x11, c := false, z := false, pc := 0x0101 },
      { w := 0x10, c := false, z := false, imm := 0x10, pc := 0x0102 },
      { w := 0x5A, c := false, z := false, pc := 0x0101 }] := by decide +kernel

theorem test_step_wstore :
    [[0x35], [0x36, 0x10], [0x37],
      [0x38], [0x39]].map (fun bytes => seen (after (start bytes))) = [
      { sp := 0x3C, pc := 0x0101 },
      { gr10 := 0x3C, imm := 0x10, pc := 0x0102 },
      { gr40 := 0x3C, pc := 0x0101 },
      { outA := 0x3C, pc := 0x0101 },
      { outB := 0x3C, pc := 0x0101 }] := by decide +kernel


/-! V6: jumps in the four flag states. -/

/-- V6's start state in flag state `f`. -/
def jumpStart (opcode : Byte) (c z : Bool) : State :=
  { start [opcode, 0x34, 0x12] with flagC := c, flagZ := z }

/-- Where a jump goes in flag states 0 to 3, with what it leaves in `TMP` and `IMM` the last time. -/
def jumpEnds (opcode : Byte) : List Addr × Byte × Byte :=
  ([after (jumpStart opcode false false), after (jumpStart opcode false true),
    after (jumpStart opcode true false), after (jumpStart opcode true true)].map (·.pc),
   (after (jumpStart opcode false false)).tmp, (after (jumpStart opcode false false)).imm)

theorem test_step_jumps : [0x3A, 0x3B, 0x3C, 0x3D, 0x3E, 0x3F].map jumpEnds = [
    ([0x1234, 0x1234, 0x1234, 0x1234], 0x34, 0x12),
    ([0x0103, 0x1234, 0x0103, 0x1234], 0x34, 0x12),
    ([0x1234, 0x0103, 0x1234, 0x0103], 0x34, 0x12),
    ([0x0103, 0x0103, 0x1234, 0x1234], 0x34, 0x12),
    ([0x1234, 0x1234, 0x0103, 0x0103], 0x34, 0x12),
    ([0x0103, 0x0103, 0x0103, 0x1234], 0x34, 0x12)] := by decide +kernel


/-- V6: a jump's high byte lies on the next page. -/
theorem test_jmp_across_page :
    (after (resetSequencer (State.placeBytes { State.reset with pc := 0x00FE } 0x00FE
      [0x3A, 0x00, 0x01]))).pc = 0x0100 := by decide +kernel

/-- V6: a jump not taken at the top of program memory wraps. -/
theorem test_jnz_not_taken_wraps :
    (after (resetSequencer (State.placeBytes { State.reset with pc := 0xFFFD, flagZ := true } 0xFFFD
      [0x3C, 0x00, 0x00]))).pc = 0x0000 := by decide +kernel

/-! V7: `NOP`, `HALT` and filler. -/

theorem test_step_nop : after (start [0x40]) =
    { start [0x40] with pc := 0x0101, ir := 0x40 } := by decide +kernel

theorem test_step_nop_wraps :
    (after { State.reset with pc := 0xFFFF }).pc = 0x0000 := by decide +kernel

theorem test_step_filler : after (start [0x99]) =
    { start [0x99] with pc := 0x0101, ir := 0x40 } := by decide +kernel

theorem test_step_halt : after (start [0x41]) = start [0x41] := by decide +kernel

/-! ## The host's words -/

theorem test_withFetchWord_fetches :
    after (State.reset.withFetchWord 16 0x5A33) =
      { State.reset.withFetchWord 16 0x5A33 with
        pc := 0x0002, w := 0x5A, imm := 0x5A, ir := 0x00 } := by decide +kernel

/-- A load leaves the machine where V9's programs start. -/
theorem test_loadImage_starts :
    (State.reset.loadImage [0x33, 0x05]).ir = 0x33 ∧ (State.reset.loadImage [0x33, 0x05]).pc = 0 := by
  decide +kernel

/-- V9, P1: the first three cycles' control words. -/
theorem test_program1_first_words :
    (State.reset.loadImage [0x33, 0x05]).controlWord = 0x3E ∧
    (nextOr State.reset (cycle (State.reset.loadImage [0x33, 0x05]))).controlWord = 0x74 ∧
    (nextOr State.reset (cycles 2 (State.reset.loadImage [0x33, 0x05]))).controlWord = 0x3F := by
  decide +kernel

/-! ## Control words and ROM -/

/-- V2: the constructor vectors, as bytes. -/
theorem test_mv_vectors :
    (mv .inPort .w .xor).toOption.map encodeStep = some 0x65 ∧
    (mv .w .outB .nop).toOption.map encodeStep = some 0x3A ∧
    (mv .sp .w .nop).toOption = none ∧ (mv .w .sp .add).toOption = none ∧
    (mv .w .tmp .nop).toOption = none ∧ (mv .outA .w .add).toOption = none := by decide

/-- V2: the illegal examples. -/
theorem test_illegal_words : ([0x00, 0x06, 0x31, 0x35, 0x81, 0xB0, 0xFF] : List Byte).all
    (fun word => !legalWord word) = true := by decide

/-- V3: opcode, flag state, step, linear address, byte. -/
theorem test_rom_cells : ([
    (0x00, 0, 0, 0x0000, 0x01), (0x00, 3, 2, 0x0032, 0x80), (0x06, 2, 1, 0x01A1, 0x04),
    (0x3B, 1, 3, 0x0ED3, 0x3C), (0x3B, 0, 3, 0x0EC3, 0x3F), (0x3B, 2, 4, 0x0EE4, 0x30),
    (0x3F, 3, 4, 0x0FF4, 0x3D), (0x40, 1, 0, 0x1010, 0x3F), (0x41, 2, 0, 0x1060, 0x80),
    (0x42, 0, 0, 0x1080, 0x3F), (0xFF, 3, 15, 0x3FFF, 0x80), (0x34, 0, 0, 0x0D00, 0x75)
    ] : List (Byte × FlagState × BitVec 4 × BitVec 14 × Byte)).all
    (fun (o, f, k, a, word) => romAddr o f k == a && romByteAt a == word) = true := by decide +kernel

/-- V4: `W`, `X`, then result and carry of ADD SUB NEG AND OR XOR LOAD. -/
theorem test_alu_table : ([
    (0x00, 0x00, [(0x00, false), (0x00, true), (0x00, true), (0x00, false), (0x00, false), (0x00, false), (0x00, false)]),
    (0x00, 0x01, [(0x01, false), (0xFF, false), (0xFF, false), (0x00, false), (0x01, false), (0x01, false), (0x01, false)]),
    (0x01, 0x00, [(0x01, false), (0x01, true), (0x00, true), (0x00, false), (0x01, false), (0x01, false), (0x00, false)]),
    (0x05, 0x05, [(0x0A, false), (0x00, true), (0xFB, false), (0x05, false), (0x05, false), (0x00, false), (0x05, false)]),
    (0x7F, 0x01, [(0x80, false), (0x7E, true), (0xFF, false), (0x01, false), (0x7F, false), (0x7E, false), (0x01, false)]),
    (0x80, 0x80, [(0x00, true), (0x00, true), (0x80, false), (0x80, false), (0x80, false), (0x00, false), (0x80, false)]),
    (0xFF, 0x01, [(0x00, true), (0xFE, true), (0xFF, false), (0x01, false), (0xFF, false), (0xFE, false), (0x01, false)]),
    (0xFF, 0xFF, [(0xFE, true), (0x00, true), (0x01, false), (0xFF, false), (0xFF, false), (0x00, false), (0xFF, false)]),
    (0xF0, 0x0F, [(0xFF, false), (0xE1, true), (0xF1, false), (0x00, false), (0xFF, false), (0xFF, false), (0x0F, false)]),
    (0xA5, 0x5A, [(0xFF, false), (0x4B, true), (0xA6, false), (0x00, false), (0xFF, false), (0xFF, false), (0x5A, false)]),
    (0x10, 0x20, [(0x30, false), (0xF0, false), (0xE0, false), (0x00, false), (0x30, false), (0x30, false), (0x20, false)]),
    (0x3C, 0x80, [(0xBC, false), (0xBC, false), (0x80, false), (0x00, false), (0xBC, false), (0xBC, false), (0x80, false)])
    ] : List (Byte × Byte × List (Byte × Bool))).all
    (fun (w, x, rs) => catalogOps.map (fun op => aluResult op w x) == rs) = true := by decide +kernel

/-! ## Index and generator errors -/

/-- V8: the refused keys. -/
theorem test_unknown_keys : [("WLOAD_WB", "SP"), ("WADD", "W"), ("WSTORE", "TMP"), ("WADD", "PC_L"),
    ("WSTORE", "IN"), ("WADD_WB", "IMM"), ("JZ", ""), ("nop", "")].all
    (fun key => (resolveOpcode key.1 key.2).toOption == none) = true := by decide +kernel

theorem test_known_keys :
    [(("WADD", "SP"), 0x00), (("WADD_WB", "REG_IMM"), 0x03), (("WXOR", "IN"), 0x2F),
      (("WLOAD", "IMM"), 0x33), (("WSTORE", "OUT_A"), 0x38), (("WSTORE", "REG_SP"), 0x37),
      (("JMP", "ADDR"), 0x3A), (("JZC", "ADDR"), 0x3F), (("NOP", ""), 0x40), (("HALT", ""), 0x41)].all
    (fun (key, o) => (resolveOpcode key.1 key.2).toOption == some (o : Byte)) = true := by
  decide +kernel

/-- The error of an answer. -/
def errorOf {α : Type} : Except BuildError α → Option BuildError
  | .ok _ => none
  | .error e => some e

/-- An entry with given lengths of its four sequences. -/
def lengthEntry (name : String) (lengths : FlagState → Nat) : Entry :=
  ⟨name, "", false, fun f => .ok (List.replicate (lengths f) microReset)⟩

theorem test_too_many_instructions :
    errorOf (generateFrom (List.replicate 257 fillerEntry)) = some .tableOverflow := by decide +kernel

theorem test_sequence_of_17 :
    errorOf (generateFrom [lengthEntry "LONG" fun _ => 17]) = some .tableOverflow := by decide +kernel

theorem test_sequence_of_16 :
    errorOf (generateFrom [lengthEntry "LONG" fun _ => 16]) = none := by decide +kernel

theorem test_unbalanced_jump :
    errorOf (generateFrom [Kind.noOp.entry, lengthEntry "JZ" fun f => if f.getLsbD 0 then 6 else 5]) =
      some (.branchLengthMismatch 1) := by decide +kernel

theorem test_duplicate_key :
    errorOf (generateFrom (buildCatalog ++ [(Kind.aluOp .add .sp false).entry])) =
      some (.duplicateInstruction "WADD" "SP") := by decide +kernel

theorem test_duplicate_filler_is_exempt :
    errorOf (generateFrom (buildCatalog ++ [fillerEntry])) = none := by decide +kernel

/-- V8's two catalogs that are refused, and one for each other property of R106: a missing code, a pair
twice, a source and a destination without the capability. -/
theorem test_transfer_catalogs :
    errorOf (checkTransferCatalog 4 transferRows) = none ∧
    [⟨none, 5⟩ :: transferRows, ⟨none, 16⟩ :: transferRows, transferRows.tail,
      ⟨some (.sp, .w), 0⟩ :: transferRows.tail, ⟨some (.outA, .w), 0⟩ :: transferRows.tail,
      ⟨some (.w, .imm), 0⟩ :: transferRows.tail].all
      (fun rows => errorOf (checkTransferCatalog 4 rows) == some .transferCatalogConfig) = true := by
  decide +kernel

/-- V1 item 3 and 30_encoding.md R119: a line with its little-endian target. -/
theorem test_assemble_jump :
    (assembleLine ⟨"JNZ", "ADDR", some 0x0002⟩).toOption = some [0x3C, 0x02, 0x00] := by decide +kernel

/-! ## Witnesses: what meets the hypotheses of each statement

A statement that is not named here has none. -/

/-- `DecodeInvertsEncode`, `LengthAndCyclesFollowSequence`: well-formed, at the filler's boundary. -/
theorem test_witness_wellFormed :
    Instr.wellFormed (.filler 0x42) = true ∧ Instr.wellFormed (.filler 0xFF) = true ∧
    Instr.wellFormed (.jzc 0xFFFF) = true ∧ Instr.wellFormed .halt = true := ⟨rfl, rfl, rfl, rfl⟩

/-- `EncodeInvertsDecode`. -/
theorem test_witness_EncodeInvertsDecode :
    decode [0x3B, 0x34, 0x12, 0x41] = .ok (.jz 0x1234, [0x41]) := rfl

/-- `AssembledLineIsEncoding`. -/
theorem test_witness_AssembledLineIsEncoding : ∀ code, Instr.jzc 0xFFFF ≠ .filler code := by
  intro code h
  cases h

/-- `ControlWordRoundTrip`: a word that decodes, the reset word among them; two equal encodings. -/
theorem test_witness_ControlWordRoundTrip :
    decodeWord 0x80 = some microReset ∧ decodeWord 0x3F = some microPcInc ∧
    encodeStep microPcInc = encodeStep ⟨.pcInc, .nop, false, rfl⟩ := by decide

/-- `LegalWordsAreThe47`. -/
theorem test_witness_LegalWordsAreThe47 : (0x80 : Byte) ∈ legalWords ∧ (0x75 : Byte) ∈ legalWords := by
  decide

/-- `TransfersRespectCapabilities`: a transfer with a source, one with a destination. -/
theorem test_witness_TransfersRespectCapabilities :
    Transfer.source .spToW = some .sp ∧ Transfer.dest .immToPcH = some .pcH := ⟨rfl, rfl⟩

/-- `TransferLookupByPair`: no source, no destination, and neither lacking but no transfer. -/
theorem test_witness_TransferLookupByPair :
    Reg.canSource .pcL = false ∧ Reg.canDestination .inPort = false ∧
    ∀ code, (Reg.sp, Reg.regSp, code) ∉ transferPairs := by decide

/-- `MicroStepConstructorChecks`: a step that is built, the reset step, and one that is refused. -/
theorem test_witness_MicroStepConstructorChecks :
    mkStep .pcInc .nop false = .ok microPcInc ∧ mkStep .noTransfer .nop true = .ok microReset ∧
    mkStep .spToW .nop false = .error (.illegalStep .spToW .nop false) := ⟨rfl, rfl, rfl⟩

/-- `SubResultAndCarry`: its last clause, at equal bytes. -/
theorem test_witness_SubResultAndCarry : (0xFF : Byte) = 0xFF := rfl

/-- `BalancePadsToLongest`: four branches of two lengths. -/
theorem test_witness_BalancePadsToLongest :
    (onZero (some [microPcInc, microPcInc]) none).length = 4 := rfl

/-- `GeneratedTableIsWhole`: this catalog's table. -/
theorem test_witness_GeneratedTableIsWhole : generateFrom buildCatalog = .ok controlTable := by
  have h := generateControlTable_eq
  have hc : checkTransferCatalog Config.xferBits transferRows = .ok () :=
    if_pos (by decide +kernel)
  generalize controlTable = table at h ⊢
  unfold generateControlTable at h
  rw [hc] at h
  generalize generateFrom buildCatalog = out at h ⊢
  exact h

/-- `OpcodeSpaceOverflow`: 257 entries, and exactly 256. -/
theorem test_witness_OpcodeSpaceOverflow :
    256 < (List.replicate 257 fillerEntry).length ∧ (List.replicate 256 fillerEntry).length = 256 := by
  decide +kernel

/-- Its second clause: 256 entries, each of whose rows can be built. -/
theorem test_witness_OpcodeSpaceOverflow_rows :
    ∀ k : Fin (List.replicate 256 fillerEntry).length,
      ∃ rows, generateRows k ((List.replicate 256 fillerEntry).get k) = .ok rows := by
  intro k
  rw [List.get_eq_getElem, List.getElem_replicate]
  exact ⟨_, rfl⟩

/-- `FirstFailingOpcodeEndsGeneration`, first part: a good opcode, then one of 17 steps. -/
theorem test_witness_FirstFailingOpcodeEndsGeneration :
    ([fillerEntry] ++ lengthEntry "LONG" (fun _ => 17) :: []).length ≤ 256 ∧
    (∀ k : Fin [fillerEntry].length, ∃ rows, generateRows k ([fillerEntry].get k) = .ok rows) ∧
    generateRows [fillerEntry].length (lengthEntry "LONG" fun _ => 17) = .error .tableOverflow := by
  refine ⟨by decide, fun k => ?_, rfl⟩
  match k with
  | ⟨0, _⟩ => exact ⟨_, rfl⟩

/-- Its second part: a sequence of 17 steps; lengths within 16 that differ. -/
theorem test_witness_FirstFailingOpcodeEndsGeneration_lengths :
    (∀ f, (lengthEntry "LONG" fun _ => 17).stepsFor f = .ok (List.replicate 17 microReset)) ∧
    (∃ _f : FlagState, 16 < (List.replicate 17 microReset).length) ∧
    (∀ f : FlagState, (List.replicate (if f.getLsbD 0 then 16 else 5) microReset).length ≤ 16) ∧
    (∃ f g : FlagState, (List.replicate (if f.getLsbD 0 then 16 else 5) microReset).length ≠
      (List.replicate (if g.getLsbD 0 then 16 else 5) microReset).length) :=
  ⟨fun _ => rfl, ⟨0, by decide⟩, by decide, 0, 1, by decide⟩

/-- `DuplicateKeyYieldsNoTable`: two entries of one key. -/
theorem test_witness_DuplicateKeyYieldsNoTable :
    let cat := [Kind.entry .noOp, Kind.entry .noOp]
    (⟨0, by decide⟩ : Fin cat.length) < ⟨1, by decide⟩ ∧
      (cat.get ⟨0, by decide⟩).filler = false ∧ (cat.get ⟨1, by decide⟩).filler = false ∧
      (cat.get ⟨0, by decide⟩).name = (cat.get ⟨1, by decide⟩).name ∧
      (cat.get ⟨0, by decide⟩).operand = (cat.get ⟨1, by decide⟩).operand :=
  ⟨by decide, rfl, rfl, rfl, rfl⟩

/-- `ResolveInvertsDescribe`: a key that resolves, and the opcodes either side of 66. -/
theorem test_witness_ResolveInvertsDescribe :
    resolveOpcode "HALT" "" = .ok 0x41 ∧ (0x41 : Byte).toNat < 66 ∧ 66 ≤ (0x42 : Byte).toNat :=
  ⟨rfl, by decide, by decide⟩

/-- `OnlyJumpRowsDifferByFlags`: the opcodes next to the jumps. -/
theorem test_witness_OnlyJumpRowsDifferByFlags :
    ((0x39 : Byte).toNat < 0x3A ∨ 0x3F < (0x39 : Byte).toNat) ∧
    ((0x40 : Byte).toNat < 0x3A ∨ 0x3F < (0x40 : Byte).toNat) := by decide

/-- `RowsEndInOneReset`: the byte before the last of a sequence of six. -/
theorem test_witness_RowsEndInOneReset : (4 : BitVec 4).toNat + 2 = sequenceLength 0x3A := by decide

/-- `JumpRowsFollowCondition`: each jump, taken and not, in flag state 2. -/
theorem test_witness_JumpRowsFollowCondition :
    [((0x3A : Byte), true), (0x3B, false), (0x3C, true), (0x3D, true), (0x3E, false), (0x3F, false)] =
      [((0x3A : Byte), true), (0x3B, (2 : FlagState).getLsbD 0), (0x3C, !(2 : FlagState).getLsbD 0),
        (0x3D, (2 : FlagState).getLsbD 1), (0x3E, !(2 : FlagState).getLsbD 1),
        (0x3F, (2 : FlagState).getLsbD 1 && (2 : FlagState).getLsbD 0)] := by decide

/-- `CycleResetsOrAdvances`: another ROM's illegal word, a reset word, an ordinary one. -/
theorem test_witness_CycleResetsOrAdvances :
    ({ State.reset with rom := [((romAddr 0x40 0 0).toNat, 0x00)] } : State).controlWord ∉ legalWords ∧
    (start [0x41]).controlWord = 0x80 ∧ (start [0x40]).controlWord ∈ legalWords ∧
    (start [0x40]).controlWord ≠ 0x80 := by decide +kernel

/-- `CounterWordsActByRule`: each word, where an instruction's row has it. -/
theorem test_witness_CounterWordsActByRule :
    ({ jumpStart 0x3B false false with stepCtr := 4 } : State).controlWord = 0x30 ∧
    ({ jumpStart 0x3A false false with stepCtr := 1 } : State).controlWord = 0x3B ∧
    ({ jumpStart 0x3A false false with stepCtr := 3 } : State).controlWord = 0x3C ∧
    ({ jumpStart 0x3A false false with stepCtr := 4 } : State).controlWord = 0x3D ∧
    (jumpStart 0x3A false false).controlWord = 0x3E ∧ (start [0x40]).controlWord = 0x3F := by
  decide +kernel

/-- `MoveWordsCopyAccumulator`: each word. -/
theorem test_witness_MoveWordsCopyAccumulator :
    (start [0x35]).controlWord = 0x36 ∧ (start [0x38]).controlWord = 0x39 ∧
    (start [0x39]).controlWord = 0x3A ∧
    ({ start [0x36, 0x10] with stepCtr := 1 } : State).controlWord = 0x37 ∧
    (start [0x37]).controlWord = 0x38 := by decide +kernel

/-- `AluWordsWriteAccumulatorAndFlags`: from `SP` and from the input port. -/
theorem test_witness_AluWordsWriteAccumulatorAndFlags :
    (MicroStep.mk .spToW .add false rfl).transfer.dest = some .w ∧
    (start [0x00]).controlWord = encodeStep ⟨.spToW, .add, false, rfl⟩ ∧
    (MicroStep.mk .inToW .load false rfl).transfer.dest = some .w ∧
    (start [0x34]).controlWord = encodeStep ⟨.inToW, .load, false, rfl⟩ := by decide +kernel

/-- `OnlyAluWordsTouchFlags`: a cycle that changes `C`, `Z`, `W` and samples the port. -/
theorem test_witness_OnlyAluWordsTouchFlags :
    ∃ t, cycle { start [0x07] with w := 0xA6 } = .next t ∧ t.flagC ≠ false ∧ t.flagZ ≠ false ∧
      t.w ≠ 0xA6 ∧ t.inSamples ≠ 0 :=
  ⟨_, of_isNext State.reset (by decide +kernel), by decide +kernel⟩

/-- `ProgramAndRomAreReadOnly`, `CycleKeepsSequencerOk`, `StepKeepsBoundaryOk`: a storing step and its
first cycle. -/
theorem test_witness_next_states :
    (∃ t, cycle (start [0x37]) = .next t) ∧ (∃ t, step (start [0x37]) = .next t) ∧
    (start [0x37]).SequencerOk ∧ (start [0x37]).BoundaryOk :=
  ⟨⟨_, of_isNext State.reset (by decide +kernel)⟩, ⟨_, of_isNext State.reset (by decide +kernel)⟩,
    by decide +kernel, by decide +kernel⟩

/-- `CycleKeepsSequencerOk`: in the middle of a jump, at its last step. -/
theorem test_witness_CycleKeepsSequencerOk :
    ({ jumpStart 0x3F true true with stepCtr := 5 } : State).SequencerOk := by decide +kernel

/-- `GeneratedRomNeverFaults`, `StepIsMicrocode`: at a boundary and inside an instruction. -/
theorem test_witness_GeneratedRom :
    State.reset.GeneratedRom ∧ ({ start [0x00] with stepCtr := 2 } : State).GeneratedRom := ⟨rfl, rfl⟩

/-- `InstructionIsItsMicrosteps`, `StepRunsDecodedInstruction`: a jump at a boundary. -/
theorem test_witness_InstructionIsItsMicrosteps :
    let s := jumpStart 0x3B false true
    s.GeneratedRom ∧ s.AtBoundary ∧
      decode [s.progByte s.pc, s.progByte (s.pc + 1), s.progByte (s.pc + 2)] = .ok (.jz 0x1234, []) ∧
      5 < (Instr.jz 0x1234).cycles := by
  refine ⟨rfl, by decide +kernel, rfl, by decide⟩

/-- `BoundaryStepCompletes`, `PowerOnEstablishesInvariants`: the reset state, and a state with
well-formed memories at both ends of each space. -/
theorem test_witness_BoundaryOk :
    State.reset.BoundaryOk ∧
    ({ State.reset with prog := [(0, 0x41), (65535, 0x00)], gr := [(0, 1), (255, 2)] } : State).MemoryWf ∧
    ({ State.reset with prog := [(0, 0x41), (65535, 0x00)], gr := [(0, 1), (255, 2)] } : State).GeneratedRom := by
  decide +kernel

/-- `JumpsComplete`: each condition of its clauses met, and not met. -/
theorem test_witness_JumpsComplete :
    (jumpStart 0x3F true true).flagC = true ∧ (jumpStart 0x3F true true).flagZ = true ∧
    (jumpStart 0x3F false false).flagC = false ∧ (jumpStart 0x3F false false).flagZ = false :=
  ⟨rfl, rfl, rfl, rfl⟩

/-- `EndedRunStays`: a run that has ended. -/
theorem test_witness_EndedRunStays :
    (start [0x41]).GeneratedRom ∧ (start [0x41]).AtBoundary ∧ (start [0x41]).Ended := by decide +kernel

/-- `FlagsSteerOnlyJumps`: two states that differ in both flags. -/
theorem test_witness_FlagsSteerOnlyJumps :
    ¬ IsJump .waddSp ∧
    AgreeButFlags (start [0x00]) { start [0x00] with flagC := true, flagZ := true } := ⟨id, rfl⟩

/-- `StaleScratchIsNeverRead`: two states that differ in `IMM` and `TMP`. -/
theorem test_witness_StaleScratchIsNeverRead :
    AgreeButScratch (start [0x00]) { start [0x00] with imm := 0xFF, tmp := 0xFE } := rfl

/-- `OnlyInFormsReadThePort`: a form that reads the port, one that does not, what each answers, and
two states that differ in what the port is driven with. -/
theorem test_witness_OnlyInFormsReadThePort :
    ReadsIn .waddIn ∧ ¬ ReadsIn .waddSp ∧ (∃ t, exec .waddIn (start [0x07]) = .next t) ∧
    (∃ t, exec .waddSp (start [0x00]) = .next t) ∧
    AgreeButInput (start [0x00]) { start [0x00] with inDriven := [0x01], inSamples := 7 } :=
  ⟨trivial, id, ⟨_, rfl⟩, ⟨_, rfl⟩, rfl⟩

/-- `InstructionEndsAtNextOpcode`: an instruction that is neither `HALT` nor a jump, at the wrap, and a
jump. -/
theorem test_witness_InstructionEndsAtNextOpcode :
    jumpTarget (.jzc 0xFFFF) = some 0xFFFF ∧
    Instr.waddImm 0xFF ≠ .halt ∧ ¬ IsJump (.waddImm 0xFF) ∧
    (0xFFFF + (Instr.waddImm 0xFF).length) % 65536 = 1 := ⟨rfl, by decide, id, rfl⟩

end Sys2Proof.Tests
end

section
/-!
The shape of an instruction's meaning. Every instruction but a jump and `HALT` runs up to three
stages before the closing `PCINC, RESET`: it fetches an operand byte, operates on `W`, copies `W` out
(41_alu.md R200, 42_store.md R270, 44_nop_halt.md R300). Proofs about every instruction argue stage
by stage.
-/

namespace Sys2Proof.Machine

/-- The stages of an instruction before its closing steps, each absent or present. -/
structure Stages where
  operand : Option Byte := none
  alu : Option (AluOp × Source) := none
  copy : Option Dest := none

/-- The operand fetch: without one, `PC` and `IMM` stay. -/
def fetchStage : Option Byte → State → State
  | none, s => s
  | some b, s => latchImm b s

/-- The operation on `W`, if any. -/
def aluStage : Option (AluOp × Source) → State → State
  | none, s => s
  | some (op, src), s => aluToW op src s

/-- The copy of `W`, if any. -/
def copyStage : Option Dest → State → State
  | none, s => s
  | some dst, s => moveW dst s

/-- The whole instruction: its stages in order, then `PCINC, RESET`. -/
def Stages.run (p : Stages) (s : State) : State :=
  endInstr (copyStage p.copy (aluStage p.alu (fetchStage p.operand s)))

/-- The stages of each instruction; none for the jumps and `HALT`, which do not end in
`PCINC, RESET`. -/
def stagesOf : Instr → Option Stages
  | .waddSp => some { alu := some (.add, .sp) }
  | .waddWbSp => some { alu := some (.add, .sp), copy := some .sp }
  | .waddRegImm i => some { operand := some i, alu := some (.add, .regImm) }
  | .waddWbRegImm i => some { operand := some i, alu := some (.add, .regImm), copy := some .regImm }
  | .waddRegSp => some { alu := some (.add, .regSp) }
  | .waddWbRegSp => some { alu := some (.add, .regSp), copy := some .regSp }
  | .waddImm b => some { operand := some b, alu := some (.add, .imm) }
  | .waddIn => some { alu := some (.add, .inPort) }
  | .wsubSp => some { alu := some (.sub, .sp) }
  | .wsubWbSp => some { alu := some (.sub, .sp), copy := some .sp }
  | .wsubRegImm i => some { operand := some i, alu := some (.sub, .regImm) }
  | .wsubWbRegImm i => some { operand := some i, alu := some (.sub, .regImm), copy := some .regImm }
  | .wsubRegSp => some { alu := some (.sub, .regSp) }
  | .wsubWbRegSp => some { alu := some (.sub, .regSp), copy := some .regSp }
  | .wsubImm b => some { operand := some b, alu := some (.sub, .imm) }
  | .wsubIn => some { alu := some (.sub, .inPort) }
  | .wnegSp => some { alu := some (.neg, .sp) }
  | .wnegWbSp => some { alu := some (.neg, .sp), copy := some .sp }
  | .wnegRegImm i => some { operand := some i, alu := some (.neg, .regImm) }
  | .wnegWbRegImm i => some { operand := some i, alu := some (.neg, .regImm), copy := some .regImm }
  | .wnegRegSp => some { alu := some (.neg, .regSp) }
  | .wnegWbRegSp => some { alu := some (.neg, .regSp), copy := some .regSp }
  | .wnegImm b => some { operand := some b, alu := some (.neg, .imm) }
  | .wnegIn => some { alu := some (.neg, .inPort) }
  | .wandSp => some { alu := some (.and, .sp) }
  | .wandWbSp => some { alu := some (.and, .sp), copy := some .sp }
  | .wandRegImm i => some { operand := some i, alu := some (.and, .regImm) }
  | .wandWbRegImm i => some { operand := some i, alu := some (.and, .regImm), copy := some .regImm }
  | .wandRegSp => some { alu := some (.and, .regSp) }
  | .wandWbRegSp => some { alu := some (.and, .regSp), copy := some .regSp }
  | .wandImm b => some { operand := some b, alu := some (.and, .imm) }
  | .wandIn => some { alu := some (.and, .inPort) }
  | .worSp => some { alu := some (.or, .sp) }
  | .worWbSp => some { alu := some (.or, .sp), copy := some .sp }
  | .worRegImm i => some { operand := some i, alu := some (.or, .regImm) }
  | .worWbRegImm i => some { operand := some i, alu := some (.or, .regImm), copy := some .regImm }
  | .worRegSp => some { alu := some (.or, .regSp) }
  | .worWbRegSp => some { alu := some (.or, .regSp), copy := some .regSp }
  | .worImm b => some { operand := some b, alu := some (.or, .imm) }
  | .worIn => some { alu := some (.or, .inPort) }
  | .wxorSp => some { alu := some (.xor, .sp) }
  | .wxorWbSp => some { alu := some (.xor, .sp), copy := some .sp }
  | .wxorRegImm i => some { operand := some i, alu := some (.xor, .regImm) }
  | .wxorWbRegImm i => some { operand := some i, alu := some (.xor, .regImm), copy := some .regImm }
  | .wxorRegSp => some { alu := some (.xor, .regSp) }
  | .wxorWbRegSp => some { alu := some (.xor, .regSp), copy := some .regSp }
  | .wxorImm b => some { operand := some b, alu := some (.xor, .imm) }
  | .wxorIn => some { alu := some (.xor, .inPort) }
  | .wloadSp => some { alu := some (.load, .sp) }
  | .wloadRegImm i => some { operand := some i, alu := some (.load, .regImm) }
  | .wloadRegSp => some { alu := some (.load, .regSp) }
  | .wloadImm b => some { operand := some b, alu := some (.load, .imm) }
  | .wloadIn => some { alu := some (.load, .inPort) }
  | .wstoreSp => some { copy := some .sp }
  | .wstoreRegImm i => some { operand := some i, copy := some .regImm }
  | .wstoreRegSp => some { copy := some .regSp }
  | .wstoreOutA => some { copy := some .outA }
  | .wstoreOutB => some { copy := some .outB }
  | .nop | .filler _ => some {}
  | .jmp _ | .jz _ | .jnz _ | .jc _ | .jnc _ | .jzc _ | .halt => none

/-- An instruction with stages means them. -/
theorem exec_of_stagesOf {i : Instr} {p : Stages} (h : stagesOf i = some p) (s : State) :
    exec i s = .next (p.run s) := by
  cases i <;> cases h <;> rfl

/-- An instruction without stages is a jump or `HALT`. -/
theorem isJump_or_halt_of_stagesOf {i : Instr} (h : stagesOf i = none) :
    Stated.IsJump i ∨ i = .halt := by
  cases i with
  | jmp | jz | jnz | jc | jnc | jzc => exact .inl trivial
  | halt => exact .inr rfl
  | _ => cases h

/-- A jump fetches its target and goes there or on, by a condition on the flags alone. -/
theorem exec_of_isJump {i : Instr} (h : Stated.IsJump i) :
    ∃ (taken : Bool → Bool → Bool) (target : Addr),
      ∀ s, exec i s = .next (jumpIf (taken s.flagC s.flagZ) target s) := by
  cases i with
  | jmp target => exact ⟨fun _ _ => true, target, fun _ => rfl⟩
  | jz target => exact ⟨fun _ z => z, target, fun _ => rfl⟩
  | jnz target => exact ⟨fun _ z => !z, target, fun _ => rfl⟩
  | jc target => exact ⟨fun c _ => c, target, fun _ => rfl⟩
  | jnc target => exact ⟨fun c _ => !c, target, fun _ => rfl⟩
  | jzc target => exact ⟨fun c z => c && z, target, fun _ => rfl⟩
  | _ => exact h.elim

/-! ## Which stages use `IMM` -/

/-- The operands that are read through `IMM`. -/
def sourceUsesImm : Source → Bool
  | .regImm | .imm => true
  | .sp | .regSp | .inPort => false

/-- The destinations that are reached through `IMM`. -/
def destUsesImm : Dest → Bool
  | .regImm => true
  | .sp | .regSp | .outA | .outB => false

/-- Whether some stage uses `IMM`. -/
def Stages.usesImm (p : Stages) : Bool :=
  p.alu.any (fun a => sourceUsesImm a.2) || p.copy.any destUsesImm

/-- An instruction uses `IMM` exactly if it has fetched it itself. -/
theorem usesImm_eq_operand_isSome {i : Instr} {p : Stages} (h : stagesOf i = some p) :
    p.usesImm = p.operand.isSome := by
  cases i <;> cases h <;> rfl

end Sys2Proof.Machine
end

section
/-!
The flags, `IMM` and `TMP` across instructions: what the flags do not steer (10_state.md R41), what
no instruction reads of an earlier one (R49). Each is a relation between two states that every stage
keeps.
-/

namespace Sys2Proof.Machine

open Sys2Proof.Stated

/-! ## States that differ in the flags -/

theorem agreeButFlags_iff {s t : State} :
    AgreeButFlags s t ↔ ∃ c z, t = (s.setFlagC c).setFlagZ z := by
  constructor
  · exact fun h => ⟨t.flagC, t.flagZ, h⟩
  · rintro ⟨c, z, rfl⟩
    rfl

theorem fetchStage_agreeButFlags (operand : Option Byte) {s t : State} (h : AgreeButFlags s t) :
    AgreeButFlags (fetchStage operand s) (fetchStage operand t) := by
  obtain ⟨c, z, rfl⟩ := agreeButFlags_iff.mp h
  cases operand <;> rfl

/-- The ALU's operands do not include the flags. -/
theorem aluStage_agreeButFlags (alu : Option (AluOp × Source)) {s t : State}
    (h : AgreeButFlags s t) : AgreeButFlags (aluStage alu s) (aluStage alu t) := by
  obtain ⟨c, z, rfl⟩ := agreeButFlags_iff.mp h
  rcases alu with _ | ⟨op, src⟩
  · rfl
  · cases src <;> rfl

theorem copyStage_agreeButFlags (copy : Option Dest) {s t : State} (h : AgreeButFlags s t) :
    AgreeButFlags (copyStage copy s) (copyStage copy t) := by
  obtain ⟨c, z, rfl⟩ := agreeButFlags_iff.mp h
  rcases copy with _ | dst
  · rfl
  · cases dst <;> rfl

theorem endInstr_agreeButFlags {s t : State} (h : AgreeButFlags s t) :
    AgreeButFlags (endInstr s) (endInstr t) := by
  obtain ⟨c, z, rfl⟩ := agreeButFlags_iff.mp h
  rfl

theorem resetSequencer_agreeButFlags {s t : State} (h : AgreeButFlags s t) :
    AgreeButFlags (resetSequencer s) (resetSequencer t) := by
  obtain ⟨c, z, rfl⟩ := agreeButFlags_iff.mp h
  rfl

theorem Stages.run_agreeButFlags (p : Stages) {s t : State} (h : AgreeButFlags s t) :
    AgreeButFlags (p.run s) (p.run t) :=
  endInstr_agreeButFlags <| copyStage_agreeButFlags _ <| aluStage_agreeButFlags _ <|
    fetchStage_agreeButFlags _ h

/-! ## States that differ in `IMM` and `TMP` -/

theorem agreeButScratch_iff {s t : State} :
    AgreeButScratch s t ↔ ∃ imm tmp, t = (s.setImm imm).setTmp tmp := by
  constructor
  · exact fun h => ⟨t.imm, t.tmp, h⟩
  · rintro ⟨imm, tmp, rfl⟩
    rfl

/-- The same state but for `TMP` and, unless it is `live`, `IMM`: `live` is whether the instruction at
hand has fetched it. -/
def AgreeButStale (live : Bool) (s t : State) : Prop :=
  AgreeButScratch s t ∧ (live = true → t.imm = s.imm)

/-- The fetch makes `IMM` live. -/
theorem fetchStage_agreeButStale (operand : Option Byte) {s t : State} (h : AgreeButScratch s t) :
    AgreeButStale operand.isSome (fetchStage operand s) (fetchStage operand t) := by
  obtain ⟨imm, tmp, rfl⟩ := agreeButScratch_iff.mp h
  cases operand with
  | none => exact ⟨rfl, nofun⟩
  | some b => exact ⟨rfl, fun _ => rfl⟩

/-- An operand is the same for both states if `IMM` is live wherever the operand uses it. -/
theorem operandValue_agreeButStale {live : Bool} {src : Source} {s t : State}
    (h : AgreeButStale live s t) (hu : sourceUsesImm src = true → live = true) :
    operandValue src t = operandValue src s := by
  obtain ⟨hs, himm⟩ := h
  obtain ⟨imm, tmp, rfl⟩ := agreeButScratch_iff.mp hs
  cases src with
  | sp | regSp | inPort => rfl
  | imm => exact himm (hu rfl)
  | regImm => exact congrArg s.grByte (himm (hu rfl))

theorem aluStage_agreeButStale {live : Bool} {alu : Option (AluOp × Source)} {s t : State}
    (h : AgreeButStale live s t)
    (hu : alu.any (fun a => sourceUsesImm a.2) = true → live = true) :
    AgreeButStale live (aluStage alu s) (aluStage alu t) := by
  rcases alu with _ | ⟨op, src⟩
  · exact h
  · have hx := operandValue_agreeButStale h hu
    obtain ⟨hs, himm⟩ := h
    obtain ⟨imm, tmp, rfl⟩ := agreeButScratch_iff.mp hs
    simp only [aluStage, aluToW_eq, hx]
    exact ⟨rfl, himm⟩

theorem copyStage_agreeButStale {live : Bool} {copy : Option Dest} {s t : State}
    (h : AgreeButStale live s t) (hu : copy.any destUsesImm = true → live = true) :
    AgreeButStale live (copyStage copy s) (copyStage copy t) := by
  obtain ⟨hs, himm⟩ := h
  obtain ⟨imm, tmp, rfl⟩ := agreeButScratch_iff.mp hs
  rcases copy with _ | dst
  · exact ⟨rfl, himm⟩
  · cases dst with
    | sp | regSp | outA | outB => exact ⟨rfl, himm⟩
    | regImm =>
      obtain rfl : imm = s.imm := himm (hu rfl)
      exact ⟨rfl, himm⟩

theorem endInstr_agreeButScratch {s t : State} (h : AgreeButScratch s t) :
    AgreeButScratch (endInstr s) (endInstr t) := by
  obtain ⟨imm, tmp, rfl⟩ := agreeButScratch_iff.mp h
  rfl

theorem resetSequencer_agreeButScratch {s t : State} (h : AgreeButScratch s t) :
    AgreeButScratch (resetSequencer s) (resetSequencer t) := by
  obtain ⟨imm, tmp, rfl⟩ := agreeButScratch_iff.mp h
  rfl

theorem Stages.run_agreeButScratch {p : Stages} (hp : p.usesImm = p.operand.isSome)
    {s t : State} (h : AgreeButScratch s t) : AgreeButScratch (p.run s) (p.run t) := by
  have himp := hp.le
  simp only [Stages.usesImm, Bool.le_iff_imp, Bool.or_eq_true] at himp
  have hfetch := fetchStage_agreeButStale p.operand h
  have halu := aluStage_agreeButStale hfetch (fun hu => himp (.inl hu))
  have hcopy := copyStage_agreeButStale halu (fun hu => himp (.inr hu))
  exact endInstr_agreeButScratch hcopy.1

/-- A jump overwrites both `IMM` and `TMP` before it reads either. -/
theorem fetchTarget_of_agreeButScratch (target : Addr) {s t : State} (h : AgreeButScratch s t) :
    fetchTarget target t = fetchTarget target s := by
  obtain ⟨imm, tmp, rfl⟩ := agreeButScratch_iff.mp h
  rfl

theorem jumpIf_of_agreeButScratch (taken : Bool) (target : Addr) {s t : State}
    (h : AgreeButScratch s t) : jumpIf taken target t = jumpIf taken target s := by
  simp only [jumpIf, fetchTarget_of_agreeButScratch target h]

/-! ## The obligations -/

/-- Settles O55: every stage keeps two states equal but for the flags. -/
theorem flagsSteerOnlyJumps : Obligations.FlagsSteerOnlyJumps := by
  intro i s s' hj h
  cases hp : stagesOf i with
  | some p =>
    exact ⟨_, _, exec_of_stagesOf hp s, exec_of_stagesOf hp s', p.run_agreeButFlags h⟩
  | none =>
    obtain rfl : i = .halt := (isJump_or_halt_of_stagesOf hp).resolve_left hj
    exact ⟨_, _, rfl, rfl, resetSequencer_agreeButFlags h⟩

/-- Settles O56: a stage that uses `IMM` follows its own instruction's fetch, and a jump fetches
before it reads `IMM` or `TMP`. -/
theorem staleScratchIsNeverRead : Obligations.StaleScratchIsNeverRead := by
  intro i s s' h
  cases hp : stagesOf i with
  | some p =>
    exact ⟨_, _, exec_of_stagesOf hp s, exec_of_stagesOf hp s',
      Stages.run_agreeButScratch (usesImm_eq_operand_isSome hp) h⟩
  | none =>
    obtain hj | rfl := isJump_or_halt_of_stagesOf hp
    · obtain ⟨taken, target, hexec⟩ := exec_of_isJump hj
      refine ⟨_, _, hexec s, hexec s', ?_⟩
      obtain ⟨hc, hz⟩ : s'.flagC = s.flagC ∧ s'.flagZ = s.flagZ := by
        obtain ⟨imm, tmp, rfl⟩ := agreeButScratch_iff.mp h
        exact ⟨rfl, rfl⟩
      rw [hc, hz, jumpIf_of_agreeButScratch _ _ h]
      rfl
    · exact ⟨_, _, rfl, rfl, resetSequencer_agreeButScratch h⟩

end Sys2Proof.Machine
end

section
/-!
The accumulator's side of the state: which control words touch `W`, the flags and the port
(10_state.md R39, 40_microstep.md R162), the two views of the register file (R48), the register
capabilities (R37) and the flag state (R40).
-/

namespace Sys2Proof.Machine

/-- A transfer that does not write `W` leaves `W`, the flags and the port alone. -/
theorem execTransfer_frame_of_dest_ne_w {transfer : Transfer} (op : AluOp) (s : State)
    (h : transfer.dest ≠ some .w) :
    (execTransfer transfer op s).flagC = s.flagC ∧ (execTransfer transfer op s).flagZ = s.flagZ ∧
    (execTransfer transfer op s).w = s.w ∧
    (execTransfer transfer op s).inSamples = s.inSamples := by
  cases transfer with
  | spToW | regImmToW | regSpToW | immToW | inToW => exact absurd rfl h
  | _ => exact ⟨rfl, rfl, rfl, rfl⟩

theorem microStep_frame_of_dest_ne_w {m : MicroStep} (s : State) (h : m.transfer.dest ≠ some .w) :
    (microStep m s).flagC = s.flagC ∧ (microStep m s).flagZ = s.flagZ ∧
    (microStep m s).w = s.w ∧ (microStep m s).inSamples = s.inSamples := by
  cases hr : m.reset with
  | true =>
    rw [microStep_reset m s hr]
    exact ⟨rfl, rfl, rfl, rfl⟩
  | false =>
    rw [microStep_ordinary m s hr]
    exact execTransfer_frame_of_dest_ne_w m.alu s h

/-- Settles O33: a micro-step without a `W`-writing transfer changes none of the four. -/
theorem onlyAluWordsTouchFlags : Obligations.OnlyAluWordsTouchFlags := by
  intro s t hcycle hchange
  obtain ⟨m, hm, rfl⟩ := cycle_next s t hcycle
  refine ⟨m, hm, ?_⟩
  by_contra hdest
  obtain ⟨hc, hz, hw, hin⟩ := microStep_frame_of_dest_ne_w s hdest
  simp [hc, hz, hw, hin] at hchange

/-! ## The register file's two views -/

theorem exec_wstoreRegSp_grByte (s : State) :
    ∃ t, exec .wstoreRegSp s = .next t ∧ t.grByte s.sp = s.w := by
  refine ⟨_, rfl, ?_⟩
  have hread := s.grByte_setGrByte s.sp s.sp s.w
  rwa [if_pos rfl] at hread

theorem exec_wstoreRegImm_grByte (i : Byte) (s : State) :
    ∃ t, exec (.wstoreRegImm i) s = .next t ∧ t.sp = s.sp ∧ t.grByte i = s.w := by
  refine ⟨_, rfl, rfl, ?_⟩
  have hread := s.grByte_setGrByte i i s.w
  rwa [if_pos rfl] at hread

theorem exec_wloadRegSp_w (s : State) :
    ∃ t, exec .wloadRegSp s = .next t ∧ t.w = s.grByte s.sp := ⟨_, rfl, rfl⟩

theorem exec_wloadRegImm_w (i : Byte) (s : State) :
    ∃ t, exec (.wloadRegImm i) s = .next t ∧ t.w = s.grByte i := ⟨_, rfl, rfl⟩

/-- Settles O58: both stores write, and both loads read, the one file at the index `SP` holds. -/
theorem indexedViewsShareOneFile : Obligations.IndexedViewsShareOneFile := by
  intro s
  constructor
  · obtain ⟨t, hstore, hread⟩ := exec_wstoreRegSp_grByte s
    obtain ⟨u, hload, hw⟩ := exec_wloadRegImm_w s.sp t
    exact ⟨t, u, hstore, hload, hw.trans hread⟩
  · obtain ⟨t, hstore, hsp, hread⟩ := exec_wstoreRegImm_grByte s.sp s
    obtain ⟨u, hload, hw⟩ := exec_wloadRegSp_w t
    exact ⟨t, u, hstore, hload, by rw [hw, hsp, hread]⟩

/-! ## Capabilities and the flag state -/

theorem canSource_of_source {t : Transfer} {r : Reg} (h : t.source = some r) :
    r.canSource = true := by
  cases t <;> cases h <;> rfl

theorem canDestination_of_dest {t : Transfer} {r : Reg} (h : t.dest = some r) :
    r.canDestination = true := by
  cases t <;> cases h <;> rfl

/-- Settles O9, transfer by transfer. -/
theorem transfersRespectCapabilities : Obligations.TransfersRespectCapabilities :=
  fun _ _ => ⟨canSource_of_source, canDestination_of_dest⟩

theorem State.flagState_toNat (s : State) :
    s.flagState.toNat = 2 * s.flagC.toNat + s.flagZ.toNat := by
  rw [State.flagState]
  cases s.flagC <;> cases s.flagZ <;> rfl

@[simp] theorem State.flagState_getLsbD_one (s : State) : s.flagState.getLsbD 1 = s.flagC := by
  rw [State.flagState]
  cases s.flagC <;> cases s.flagZ <;> rfl

@[simp] theorem State.flagState_getLsbD_zero (s : State) : s.flagState.getLsbD 0 = s.flagZ := by
  rw [State.flagState]
  cases s.flagC <;> cases s.flagZ <;> rfl

/-- Settles O17, as a number and bit by bit. -/
theorem flagStateIsCarryThenZero : Obligations.FlagStateIsCarryThenZero :=
  fun s => ⟨s.flagState_toNat, s.flagState_getLsbD_one, s.flagState_getLsbD_zero⟩

end Sys2Proof.Machine
end

section
/-!
Program memory and the control ROM are read-only to the machine (20_memory.md R72): no stage of an
instruction and no micro-step writes either. Only the host's load does.
-/

namespace Sys2Proof.Machine

/-- The same program memory and control ROM. -/
def SameStore (s t : State) : Prop := t.prog = s.prog ∧ t.rom = s.rom

theorem SameStore.refl (s : State) : SameStore s s := ⟨rfl, rfl⟩

theorem SameStore.trans {s t u : State} (h : SameStore s t) (h' : SameStore t u) :
    SameStore s u := ⟨h'.1.trans h.1, h'.2.trans h.2⟩

/-! ## A cycle, and cycles up to a reset step -/

theorem resetSequencer_sameStore (s : State) : SameStore s (resetSequencer s) := ⟨rfl, rfl⟩

theorem microStep_sameStore (m : MicroStep) (s : State) : SameStore s (microStep m s) := by
  cases hr : m.reset with
  | true =>
    rw [microStep_reset m s hr]
    exact resetSequencer_sameStore s
  | false =>
    rw [microStep_ordinary m s hr]
    obtain ⟨hrom, hprog, -, -⟩ := execTransfer_frame m.transfer m.alu s
    exact ⟨hprog, hrom⟩

theorem cycle_sameStore {s t : State} (h : cycle s = .next t) : SameStore s t := by
  obtain ⟨m, -, rfl⟩ := cycle_next s t h
  exact microStep_sameStore m s

/-- A run to the next reset step ends at once or goes on after one cycle. -/
theorem runToReset_succ_next {fuel : Nat} {s t : State} (h : runToReset (fuel + 1) s = .next t) :
    ∃ u, cycle s = .next u ∧ (t = u ∨ runToReset fuel u = .next t) := by
  cases hc : cycle s with
  | next u =>
    refine ⟨u, rfl, ?_⟩
    by_cases hw : s.controlWord = 0x80
    · rw [runToReset_of_reset hc hw] at h
      cases h
      exact .inl rfl
    · rw [runToReset_of_ordinary hc hw] at h
      exact .inr h
  | fault r | refused r =>
    rw [runToReset, hc] at h
    cases h

theorem runToReset_sameStore (fuel : Nat) {s t : State} (h : runToReset fuel s = .next t) :
    SameStore s t := by
  induction fuel generalizing s with
  | zero =>
    cases h
    exact .refl _
  | succ fuel ih =>
    obtain ⟨u, hc, rfl | hrest⟩ := runToReset_succ_next h
    · exact cycle_sameStore hc
    · exact (cycle_sameStore hc).trans (ih hrest)

/-! ## An instruction's meaning -/

theorem fetchStage_sameStore (operand : Option Byte) (s : State) :
    SameStore s (fetchStage operand s) := by
  cases operand <;> exact ⟨rfl, rfl⟩

theorem aluStage_sameStore (alu : Option (AluOp × Source)) (s : State) :
    SameStore s (aluStage alu s) := by
  rcases alu with _ | ⟨op, src⟩
  · exact .refl s
  · rw [aluStage, aluToW_eq]
    exact ⟨rfl, rfl⟩

theorem copyStage_sameStore (copy : Option Dest) (s : State) : SameStore s (copyStage copy s) := by
  rcases copy with _ | dst
  · exact .refl s
  · rw [copyStage, moveW_eq]
    exact ⟨rfl, rfl⟩

theorem endInstr_sameStore (s : State) : SameStore s (endInstr s) := ⟨rfl, rfl⟩

theorem Stages.run_sameStore (p : Stages) (s : State) : SameStore s (p.run s) :=
  (fetchStage_sameStore p.operand s).trans <| (aluStage_sameStore p.alu _).trans <|
    (copyStage_sameStore p.copy _).trans (endInstr_sameStore _)

theorem jumpIf_sameStore (taken : Bool) (target : Addr) (s : State) :
    SameStore s (jumpIf taken target s) := by
  cases taken <;>
    simp [SameStore, jumpIf, fetchTarget, jumpTaken, latchImm_eq, immToTmp_eq, tmpToPcL_eq,
      immToPcH_eq, pcInc_eq, resetSequencer_eq]

theorem exec_sameStore {i : Instr} {s t : State} (h : exec i s = .next t) : SameStore s t := by
  cases hp : stagesOf i with
  | some p =>
    rw [exec_of_stagesOf hp] at h
    cases h
    exact p.run_sameStore s
  | none =>
    obtain hj | rfl := isJump_or_halt_of_stagesOf hp
    · obtain ⟨taken, target, hexec⟩ := exec_of_isJump hj
      rw [hexec] at h
      cases h
      exact jumpIf_sameStore _ target s
    · cases h
      exact resetSequencer_sameStore s

/-! ## A step -/

/-- A step is a decoded instruction's meaning or the cycles up to the next reset step. -/
theorem step_next {s t : State} (h : step s = .next t) :
    (∃ i, exec i s = .next t) ∨ runToReset Config.rowLength s = .next t := by
  unfold step at h
  split at h
  · unfold runFetched at h
    split at h
    · exact .inl ⟨_, h⟩
    · cases h
  · exact .inr h

theorem step_sameStore {s t : State} (h : step s = .next t) : SameStore s t := by
  obtain ⟨i, hexec⟩ | hrun := step_next h
  · exact exec_sameStore hexec
  · exact runToReset_sameStore _ hrun

/-- Settles O34: a cycle runs one micro-step, a step one instruction or several cycles, and each keeps
both memories. -/
theorem programAndRomAreReadOnly : Obligations.ProgramAndRomAreReadOnly := by
  rintro s t (hcycle | hstep)
  · exact cycle_sameStore hcycle
  · exact step_sameStore hstep

end Sys2Proof.Machine
end

section
/-!
The input port (20_memory.md R78, 40_microstep.md R161). An instruction without operand `IN` commutes
with replacing what stands on the port. That says both that it takes no sample and that the port does
not affect it.
-/

namespace Sys2Proof.Machine

open Sys2Proof.Stated

/-- The same state with another schedule and sample count on the input port. -/
def State.withPort (driven : List Byte) (samples : Nat) (s : State) : State :=
  (s.setInDriven driven).setInSamples samples

theorem State.withPort_self (s : State) : s.withPort s.inDriven s.inSamples = s := rfl

theorem agreeButInput_iff {s t : State} :
    AgreeButInput s t ↔ ∃ driven samples, t = s.withPort driven samples := by
  constructor
  · exact fun h => ⟨t.inDriven, t.inSamples, h⟩
  · rintro ⟨driven, samples, rfl⟩
    rfl

/-! ## Which instructions read the port -/

/-- An instruction with operand `IN` is one operation on `W` and nothing else. -/
theorem stagesOf_of_readsIn {i : Instr} (h : ReadsIn i) :
    ∃ op, stagesOf i = some { alu := some (op, .inPort) } := by
  cases i with
  | waddIn | wsubIn | wnegIn | wandIn | worIn | wxorIn | wloadIn => exact ⟨_, rfl⟩
  | _ => exact h.elim

/-- The operation of any other instruction has another operand. -/
theorem source_ne_inPort_of_not_readsIn {i : Instr} {p : Stages} {op : AluOp} {src : Source}
    (hi : ¬ ReadsIn i) (hp : stagesOf i = some p) (ha : p.alu = some (op, src)) :
    src ≠ .inPort := by
  rintro rfl
  cases i with
  | waddIn | wsubIn | wnegIn | wandIn | worIn | wxorIn | wloadIn => exact hi trivial
  | _ => cases hp <;> cases ha

/-! ## Stages that leave the port alone -/

section
variable (driven : List Byte) (samples : Nat)

theorem fetchStage_withPort (operand : Option Byte) (s : State) :
    fetchStage operand (s.withPort driven samples) =
      (fetchStage operand s).withPort driven samples := by
  cases operand <;> rfl

theorem aluStage_withPort {alu : Option (AluOp × Source)}
    (h : ∀ op src, alu = some (op, src) → src ≠ .inPort) (s : State) :
    aluStage alu (s.withPort driven samples) = (aluStage alu s).withPort driven samples := by
  rcases alu with _ | ⟨op, src⟩
  · rfl
  · cases src with
    | inPort => exact absurd rfl (h op .inPort rfl)
    | sp | regImm | regSp | imm => rfl

theorem copyStage_withPort (copy : Option Dest) (s : State) :
    copyStage copy (s.withPort driven samples) = (copyStage copy s).withPort driven samples := by
  rcases copy with _ | dst
  · rfl
  · cases dst <;> rfl

theorem endInstr_withPort (s : State) :
    endInstr (s.withPort driven samples) = (endInstr s).withPort driven samples := rfl

theorem Stages.run_withPort {p : Stages}
    (h : ∀ op src, p.alu = some (op, src) → src ≠ .inPort) (s : State) :
    p.run (s.withPort driven samples) = (p.run s).withPort driven samples := by
  simp only [Stages.run, fetchStage_withPort, aluStage_withPort driven samples h,
    copyStage_withPort, endInstr_withPort]

theorem jumpIf_withPort (taken : Bool) (target : Addr) (s : State) :
    jumpIf taken target (s.withPort driven samples) =
      (jumpIf taken target s).withPort driven samples := by
  cases taken <;> rfl

theorem exec_withPort {i : Instr} (hi : ¬ ReadsIn i) (s : State) :
    ∃ t, exec i s = .next t ∧
      exec i (s.withPort driven samples) = .next (t.withPort driven samples) := by
  cases hp : stagesOf i with
  | some p =>
    refine ⟨_, exec_of_stagesOf hp s, ?_⟩
    rw [exec_of_stagesOf hp, Stages.run_withPort]
    exact fun _ _ => source_ne_inPort_of_not_readsIn hi hp
  | none =>
    obtain hj | rfl := isJump_or_halt_of_stagesOf hp
    · obtain ⟨taken, target, hexec⟩ := exec_of_isJump hj
      refine ⟨_, hexec s, ?_⟩
      rw [hexec, jumpIf_withPort]
      rfl
    · exact ⟨_, rfl, rfl⟩

end

/-! ## Samples taken -/

theorem exec_samples_of_readsIn {i : Instr} {s t : State} (hi : ReadsIn i)
    (h : exec i s = .next t) : Samples true s t := by
  obtain ⟨op, hp⟩ := stagesOf_of_readsIn hi
  rw [exec_of_stagesOf hp] at h
  cases h
  exact And.intro rfl rfl

/-- Replacing the port's state by itself changes nothing, so neither does the instruction. -/
theorem exec_samples_of_not_readsIn {i : Instr} {s t : State} (hi : ¬ ReadsIn i)
    (h : exec i s = .next t) : Samples false s t := by
  obtain ⟨u, hu, hport⟩ := exec_withPort s.inDriven s.inSamples hi s
  rw [s.withPort_self, h] at hport
  cases hport
  exact And.intro rfl rfl

/-- Settles O57: the `IN` forms draw once in their operation on `W`, every other instruction commutes
with a change of the port. -/
theorem onlyInFormsReadThePort : Obligations.OnlyInFormsReadThePort := by
  refine ⟨fun i s t h => ⟨fun hi => exec_samples_of_readsIn hi h,
    fun hi => exec_samples_of_not_readsIn hi h⟩, fun i s s' hi hs => ?_⟩
  obtain ⟨driven, samples, rfl⟩ := agreeButInput_iff.mp hs
  obtain ⟨t, ht, ht'⟩ := exec_withPort driven samples hi s
  exact ⟨t, _, ht, ht', agreeButInput_iff.mpr ⟨driven, samples, rfl⟩⟩

end Sys2Proof.Machine
end

section
/-!
The control ROM's linear address and the shape of the table it addresses (20_memory.md R71). The shape
is what the initializer's own check demands of every table it answers (45_table_generator.md R330).
-/

namespace Sys2Proof

/-! ## What a generated table has passed -/

/-- The check passes only where the table has its shape and the index inverts the assignment. -/
theorem checkInvariants_ok {full : List Entry} {table : ControlTable} {index : OpcodeIndex}
    (h : checkInvariants full table index = .ok ()) :
    table.length = 256 ∧
    (∀ rows ∈ table, rows.length = 4 ∧
      ∀ row ∈ rows, row.length = 16 ∧ ∀ word ∈ row, legalWord word = true) ∧
    resolvesToItself 0 index full = true ∧
    index.length = (full.filter fun e => !e.filler).length := by
  unfold checkInvariants at h
  split at h
  next hc => simpa [Config.opcodeCount, Config.rowLength, and_assoc] using hc
  next => cases h

/-- A catalog that yields a table fits the opcode space, and every stage of the generation passed. -/
theorem generateFrom_ok {cat : List Entry} {table : ControlTable}
    (h : generateFrom cat = .ok table) :
    cat.length ≤ 256 ∧ generateTable 0 (padCatalog cat) = .ok table ∧
    ∃ index, buildIndex 0 [] cat = .ok index ∧
      checkInvariants (padCatalog cat) table index = .ok () := by
  unfold generateFrom at h
  split at h
  next => cases h
  next hlen =>
    refine ⟨not_lt.mp hlen, ?_⟩
    cases htable : generateTable 0 (padCatalog cat) with
    | error e => simp [htable, bind, Except.bind] at h
    | ok table' =>
      cases hindex : buildIndex 0 [] cat with
      | error e => simp [htable, hindex, bind, Except.bind] at h
      | ok index =>
        cases hcheck : checkInvariants (padCatalog cat) table' index with
        | error e => simp [htable, hindex, hcheck, bind, Except.bind] at h
        | ok =>
          obtain rfl : table' = table := by
            simpa [htable, hindex, hcheck, bind, Except.bind, pure, Except.pure] using h
          exact ⟨rfl, index, rfl, hcheck⟩

/-- The transfer catalog's check aside, the initializer generates from catalog S1. -/
theorem generateFrom_of_generateControlTable {table : ControlTable}
    (h : generateControlTable = .ok table) : generateFrom buildCatalog = .ok table := by
  unfold generateControlTable at h
  cases hcheck : checkTransferCatalog Config.xferBits transferRows with
  | error e => simp [hcheck, bind, Except.bind] at h
  | ok => simpa [hcheck, bind, Except.bind] using h

theorem controlTable_shape :
    controlTable.length = 256 ∧
    ∀ rows ∈ controlTable, rows.length = 4 ∧ ∀ row ∈ rows, row.length = 16 := by
  obtain ⟨-, -, index, -, hcheck⟩ :=
    generateFrom_ok (generateFrom_of_generateControlTable generateControlTable_eq)
  obtain ⟨hlen, hrows, -, -⟩ := checkInvariants_ok hcheck
  refine ⟨hlen, fun rows hr => ?_⟩
  obtain ⟨hfour, hrow⟩ := hrows rows hr
  exact ⟨hfour, fun row hw => (hrow row hw).1⟩

/-! ## Reading the table -/

theorem controlTable_getD_mem (o : Byte) : controlTable.getD o.toNat [] ∈ controlTable := by
  have ho : o.toNat < controlTable.length := controlTable_shape.1 ▸ o.isLt
  rw [List.getD_eq_getElem _ _ ho]
  exact List.getElem_mem ho

/-- Every row the machine can address has 16 bytes. -/
theorem controlTable_row_length (o : Byte) (f : FlagState) :
    ((controlTable.getD o.toNat []).getD f.toNat []).length = 16 := by
  obtain ⟨hlen, hrow⟩ := controlTable_shape.2 _ (controlTable_getD_mem o)
  have hf : f.toNat < (controlTable.getD o.toNat []).length := hlen ▸ f.isLt
  rw [List.getD_eq_getElem _ _ hf]
  exact hrow _ (List.getElem_mem hf)

/-- No address is outside the table, so what an absent entry would read as does not matter. -/
theorem controlTable_getD_eq_romByte (o : Byte) (f : FlagState) (k : BitVec 4) (fill : Byte) :
    ((controlTable.getD o.toNat []).getD f.toNat []).getD k.toNat fill = romByte o f k := by
  have hk : k.toNat < ((controlTable.getD o.toNat []).getD f.toNat []).length :=
    controlTable_row_length o f ▸ k.isLt
  rw [romByte, List.getD_eq_getElem _ _ hk, List.getD_eq_getElem _ _ hk]

/-! ## The fields of the address -/

theorem toNat_append_eq_mul_add {m n : Nat} (x : BitVec m) (y : BitVec n) :
    (x ++ y).toNat = x.toNat * 2 ^ n + y.toNat := by
  rw [BitVec.toNat_append, ← Nat.shiftLeft_add_eq_or_of_lt y.isLt, Nat.shiftLeft_eq]

theorem romAddr_toNat (o : Byte) (f : FlagState) (k : BitVec 4) :
    (romAddr o f k).toNat = o.toNat * 64 + f.toNat * 16 + k.toNat := by
  simp only [romAddr, toNat_append_eq_mul_add]
  omega

theorem romAddr_opcode (o : Byte) (f : FlagState) (k : BitVec 4) :
    (romAddr o f k).extractLsb' 6 8 = o :=
  (BitVec.extractLsb'_append_eq_of_le (by decide)).trans BitVec.extractLsb'_append_eq_left

theorem romAddr_step (o : Byte) (f : FlagState) (k : BitVec 4) :
    (romAddr o f k).extractLsb' 0 4 = k := BitVec.extractLsb'_append_eq_right

/-- The flag state's two bits stand in `A[5:4]`, in their order. -/
theorem romAddr_flag_bit (o : Byte) (f : FlagState) (k : BitVec 4) {i : Nat} (hi : i < 2) :
    (romAddr o f k).getLsbD (4 + i) = f.getLsbD i := by
  have hlt : ¬ 4 + i < 4 := by omega
  rw [romAddr, BitVec.getLsbD_append, if_neg hlt, BitVec.getLsbD_append, Nat.add_sub_cancel_left,
    if_pos hi]

end Sys2Proof

namespace Sys2Proof.Machine

/-- Settles O25: the address is a concatenation, and the table has an entry at each of its values. -/
theorem romAddressFields : Obligations.RomAddressFields := by
  obtain ⟨hlen, hrows⟩ := controlTable_shape
  refine ⟨⟨controlTable, generateControlTable_eq, hlen, hrows, ?_⟩, ?_, ?_⟩
  · intro o f k
    rw [controlTable_getD_eq_romByte, romByteAt_romAddr]
  · intro s o k
    exact ⟨(romAddr_flag_bit o _ k one_lt_two).trans s.flagState_getLsbD_one,
      (romAddr_flag_bit o _ k two_pos).trans s.flagState_getLsbD_zero⟩
  · intro o f k
    exact ⟨romAddr_toNat o f k, romAddr_opcode o f k, romAddr_flag_bit o f k one_lt_two,
      romAddr_flag_bit o f k two_pos, romAddr_step o f k, romByteAt_romAddr o f k, rfl⟩

end Sys2Proof.Machine
end

section
/-!
The decoder and the encoder (30_encoding.md R112 to R117). The decoder reads by rows of the opcode
map, so both directions go through one fact: which operand bytes a row reads as which instruction.
-/

namespace Sys2Proof

/-- A row of the opcode map reads operand bytes, all of them, as an instruction. -/
inductive OpForm.Reads : OpForm → List Byte → Instr → Prop
  | op (i : Instr) : Reads (.op i) [] i
  | opImm8 (mk : Byte → Instr) (imm8 : Byte) : Reads (.opImm8 mk) [imm8] (mk imm8)
  | opAddr16 (mk : Addr → Instr) (lo hi : Byte) :
      Reads (.opAddr16 mk) [lo, hi] (mk (targetOf lo hi))

/-- The decoder is its row's reading, with the rest left over. -/
theorem decode_cons_eq_ok_iff {opcode : Byte} {bytes rest : List Byte} {i : Instr} :
    decode (opcode :: bytes) = .ok (i, rest) ↔
      ∃ operands, (formOf opcode).Reads operands i ∧ bytes = operands ++ rest := by
  constructor
  · intro h
    simp only [decode] at h
    split at h
    next i' hform =>
      cases h
      exact ⟨[], hform ▸ .op _, rfl⟩
    next mk imm8 rest' hform =>
      cases h
      exact ⟨[imm8], hform ▸ .opImm8 mk imm8, rfl⟩
    next mk lo hi rest' hform =>
      cases h
      exact ⟨[lo, hi], hform ▸ .opAddr16 mk lo hi, rfl⟩
    next => cases h
  · rintro ⟨operands, hreads, rfl⟩
    generalize hform : formOf opcode = form at hreads
    cases hreads <;> simp [decode, hform]

/-! ## What each row encodes to -/

theorem targetLo_targetOf (lo hi : Byte) : targetLo (targetOf lo hi) = lo :=
  BitVec.extractLsb'_append_eq_right

theorem targetHi_targetOf (lo hi : Byte) : targetHi (targetOf lo hi) = hi :=
  BitVec.extractLsb'_append_eq_left

/-- Whatever its operand, a row's instruction is well-formed and encodes to the row's opcode and the
operand bytes. -/
def OpForm.EncodesTo (opcode : Byte) : OpForm → Prop
  | .op i => i.wellFormed = true ∧ encode i = [opcode]
  | .opImm8 mk => ∀ imm8, (mk imm8).wellFormed = true ∧ encode (mk imm8) = [opcode, imm8]
  | .opAddr16 mk => ∀ target, (mk target).wellFormed = true ∧
      encode (mk target) = [opcode, targetLo target, targetHi target]

theorem OpForm.EncodesTo.encode_of_reads {opcode : Byte} {form : OpForm} {operands : List Byte}
    {i : Instr} (h : form.EncodesTo opcode) (hreads : form.Reads operands i) :
    i.wellFormed = true ∧ encode i = opcode :: operands := by
  cases hreads with
  | op i => exact h
  | opImm8 mk imm8 => exact h imm8
  | opAddr16 mk lo hi => simpa only [targetLo_targetOf, targetHi_targetOf] using h (targetOf lo hi)

/-- A run of rows that encode to consecutive opcodes. -/
def OpForm.EncodeFrom : Nat → List OpForm → Prop
  | _, [] => True
  | n, form :: forms => form.EncodesTo (BitVec.ofNat 8 n) ∧ EncodeFrom (n + 1) forms

theorem OpForm.EncodeFrom.getElem? {forms : List OpForm} :
    ∀ {n k : Nat} {form : OpForm}, EncodeFrom n forms → forms[k]? = some form →
      form.EncodesTo (BitVec.ofNat 8 (n + k)) := by
  induction forms with
  | nil => intro n k form _ h; cases h
  | cons first forms ih =>
    intro n k form hrun h
    cases k with
    | zero =>
      cases h
      exact hrun.1
    | succ k =>
      rw [← Nat.succ_add_eq_add_succ]
      exact ih hrun.2 h

theorem opcodeForms_encodeFrom_zero : OpForm.EncodeFrom 0 opcodeForms := by
  simp [OpForm.EncodeFrom, OpForm.EncodesTo, opcodeForms, waddForms, wsubForms, wnegForms,
    wandForms, worForms, wxorForms, wloadForms, wstoreForms, jumpForms, nopHaltForms,
    Instr.wellFormed, encode, Instr.opcode, Instr.operandBytes]

theorem opcodeForms_length : opcodeForms.length = 66 := rfl

/-- Past the real rows every opcode is filler. -/
theorem formOf_of_le {opcode : Byte} (h : 66 ≤ opcode.toNat) :
    formOf opcode = .op (.filler opcode) := by
  rw [formOf, List.getElem?_eq_none (opcodeForms_length ▸ h)]

theorem formOf_encodesTo (opcode : Byte) : (formOf opcode).EncodesTo opcode := by
  unfold formOf
  split
  next form hform =>
    simpa using opcodeForms_encodeFrom_zero.getElem? hform
  next hnone =>
    have hle : 66 ≤ opcode.toNat := opcodeForms_length ▸ List.getElem?_eq_none_iff.mp hnone
    exact ⟨decide_eq_true hle, rfl⟩

/-! ## Which row an instruction's opcode selects -/

theorem OpForm.Reads.of_target (mk : Addr → Instr) (target : Addr) :
    (OpForm.opAddr16 mk).Reads [targetLo target, targetHi target] (mk target) := by
  simpa only [Machine.targetOf_bytes] using opAddr16 mk (targetLo target) (targetHi target)

/-- The row of an instruction's opcode reads the instruction from its operand bytes. -/
theorem Instr.reads_formOf_opcode (i : Instr) (h : i.wellFormed = true) :
    (formOf i.opcode).Reads i.operandBytes i := by
  cases i with
  | filler code =>
    rw [Instr.opcode, formOf_of_le (of_decide_eq_true h)]
    exact .op _
  | jmp target | jz target | jnz target | jc target | jnc target | jzc target =>
    exact .of_target _ target
  | waddRegImm imm8 | waddWbRegImm imm8 | waddImm imm8 | wsubRegImm imm8 | wsubWbRegImm imm8
  | wsubImm imm8 | wnegRegImm imm8 | wnegWbRegImm imm8 | wnegImm imm8 | wandRegImm imm8
  | wandWbRegImm imm8 | wandImm imm8 | worRegImm imm8 | worWbRegImm imm8 | worImm imm8
  | wxorRegImm imm8 | wxorWbRegImm imm8 | wxorImm imm8 | wloadRegImm imm8 | wloadImm imm8
  | wstoreRegImm imm8 => exact .opImm8 _ imm8
  | _ => exact .op _

/-- The opcode map and the encoder agree: a row reads exactly what the encoder writes under its
opcode. -/
theorem reads_formOf_iff {opcode : Byte} {operands : List Byte} {i : Instr} :
    (formOf opcode).Reads operands i ↔ i.wellFormed = true ∧ encode i = opcode :: operands := by
  constructor
  · exact (formOf_encodesTo opcode).encode_of_reads
  · rintro ⟨hwf, henc⟩
    obtain ⟨rfl, rfl⟩ := List.cons_eq_cons.mp henc
    exact i.reads_formOf_opcode hwf

theorem decode_eq_ok_iff {bytes rest : List Byte} {i : Instr} :
    decode bytes = .ok (i, rest) ↔ i.wellFormed = true ∧ bytes = encode i ++ rest := by
  cases bytes with
  | nil => simp [decode, encode]
  | cons opcode bytes =>
    simp only [decode_cons_eq_ok_iff, reads_formOf_iff]
    constructor
    · rintro ⟨operands, ⟨hwf, henc⟩, rfl⟩
      exact ⟨hwf, by rw [henc, List.cons_append]⟩
    · rintro ⟨hwf, hbytes⟩
      obtain ⟨rfl, rfl⟩ := List.cons_eq_cons.mp hbytes
      exact ⟨i.operandBytes, ⟨hwf, rfl⟩, rfl⟩

theorem OpForm.exists_reads (form : OpForm) (b1 b2 : Byte) :
    ∃ (operands rest : List Byte) (i : Instr),
      form.Reads operands i ∧ [b1, b2] = operands ++ rest := by
  cases form with
  | op i => exact ⟨[], [b1, b2], i, .op i, rfl⟩
  | opImm8 mk => exact ⟨[b1], [b2], mk b1, .opImm8 mk b1, rfl⟩
  | opAddr16 mk => exact ⟨[b1, b2], [], _, .opAddr16 mk b1 b2, rfl⟩

/-! ## The obligations -/

/-- Settles O1: the decoder reads exactly the encodings of well-formed instructions. -/
theorem decodeInvertsEncode : Obligations.DecodeInvertsEncode :=
  fun _ _ hwf => decode_eq_ok_iff.mpr ⟨hwf, rfl⟩

/-- Settles O2: the same fact, read the other way. -/
theorem encodeInvertsDecode : Obligations.EncodeInvertsDecode :=
  fun _ _ _ => decode_eq_ok_iff.mp

/-- Settles O3: two bytes are enough operand for every format. -/
theorem everyOpcodeDecodes : Obligations.EveryOpcodeDecodes := by
  intro opcode b1 b2
  obtain ⟨operands, rest, i, hreads, hbytes⟩ := (formOf opcode).exists_reads b1 b2
  obtain ⟨-, henc⟩ := reads_formOf_iff.mp hreads
  exact ⟨i, rest, decode_cons_eq_ok_iff.mpr ⟨operands, hreads, hbytes⟩,
    List.head_eq_of_cons_eq henc⟩

/-- Settles O4: each word is the encoding of its instruction, so O1 reads it back. -/
theorem sampleWordsDecode : Obligations.SampleWordsDecode :=
  ⟨decodeInvertsEncode .waddSp [] rfl, decodeInvertsEncode (.wsubWbRegImm 0x10) [] rfl,
    decodeInvertsEncode .wnegWbRegSp [] rfl, decodeInvertsEncode (.wandImm 0x3C) [] rfl,
    decodeInvertsEncode .worIn [] rfl, decodeInvertsEncode .wxorWbSp [] rfl,
    decodeInvertsEncode (.wloadImm 0x05) [] rfl, decodeInvertsEncode .wstoreOutA [] rfl,
    decodeInvertsEncode (.jz 0x1234) [] rfl, decodeInvertsEncode .nop [] rfl,
    decodeInvertsEncode .halt [] rfl, decodeInvertsEncode (.filler 0x99) [] rfl⟩

end Sys2Proof
end

section
/-!
The transfer catalog (30_encoding.md R105 to R107): a transfer is its pair, which
`transfer(src, dst)` looks up, and building a catalog checks the properties of R106.
-/

namespace Sys2Proof

open Sys2Proof.Stated

/-! ## Transfers and their pairs -/

theorem Transfer.mem_all (t : Transfer) : t ∈ Transfer.all := by
  cases t <;> decide

theorem Transfer.pair_eq_some_iff {t : Transfer} {src dst : Reg} :
    t.pair = some (src, dst) ↔ t.source = some src ∧ t.dest = some dst := by
  unfold Transfer.pair
  split
  next a b hs hd => simp [hs, hd]
  next h => exact iff_of_false nofun fun ⟨hs, hd⟩ => h _ _ hs hd

/-- The codes are the indices into the catalog's order, so a code's transfer is read back. -/
theorem Transfer.ofCode_code (t : Transfer) : Transfer.ofCode t.code = t := by
  cases t <;> rfl

/-- The rows R105 lists are the catalog's transfers that have a pair. -/
theorem transferPairs_eq :
    transferPairs = Transfer.all.filterMap fun t => t.pair.map fun p => (p.1, p.2, t.code) := rfl

theorem mem_transferPairs_iff {src dst : Reg} {code : BitVec 4} :
    (src, dst, code) ∈ transferPairs ↔
      ∃ t : Transfer, t.pair = some (src, dst) ∧ t.code = code := by
  simp [transferPairs_eq, Transfer.mem_all]

theorem mem_transferPairs_code_iff {src dst : Reg} {t : Transfer} :
    (src, dst, t.code) ∈ transferPairs ↔ t.pair = some (src, dst) := by
  rw [mem_transferPairs_iff]
  refine ⟨?_, fun h => ⟨t, h, rfl⟩⟩
  rintro ⟨u, hpair, hcode⟩
  rwa [← u.ofCode_code, hcode, t.ofCode_code] at hpair

/-! ## The lookup -/

/-- The lookup finds every pair of the catalog at its own transfer. -/
theorem transferOf_of_pair {t : Transfer} {src dst : Reg} (h : t.pair = some (src, dst)) :
    transferOf src dst = .ok t := by
  cases t <;> cases h <;> rfl

/-- The lookup answers a transfer with the pair asked for, or the one error. -/
theorem transferOf_cases (src dst : Reg) :
    (∃ t : Transfer, t.pair = some (src, dst) ∧ transferOf src dst = .ok t) ∨
      transferOf src dst = .error (.registerCapability src dst) := by
  unfold transferOf
  split
  next =>
    split
    next t hfind =>
      have hpair := List.find?_some hfind
      rw [Bool.and_eq_true, beq_iff_eq, beq_iff_eq] at hpair
      exact .inl ⟨t, Transfer.pair_eq_some_iff.mpr hpair, rfl⟩
    next => exact .inr rfl
  next => exact .inr rfl

theorem transferOf_eq_ok_iff {src dst : Reg} {t : Transfer} :
    transferOf src dst = .ok t ↔ t.pair = some (src, dst) := by
  refine ⟨fun h => ?_, transferOf_of_pair⟩
  rcases transferOf_cases src dst with ⟨u, hpair, hu⟩ | herror
  · cases hu.symm.trans h
    exact hpair
  · cases herror.symm.trans h

/-- A pair of the catalog has both capabilities (10_state.md R37). -/
theorem Transfer.capable_of_pair {t : Transfer} {src dst : Reg} (h : t.pair = some (src, dst)) :
    src.canSource = true ∧ dst.canDestination = true := by
  obtain ⟨hs, hd⟩ := Transfer.pair_eq_some_iff.mp h
  exact ⟨Machine.canSource_of_source hs, Machine.canDestination_of_dest hd⟩

/-- Settles O10: a pair that lacks a capability or a row is no transfer's, so the lookup has only
its error left. -/
theorem transferLookupByPair : Obligations.TransferLookupByPair := by
  refine ⟨?_, ?_, rfl, rfl, rfl⟩
  · intro src dst t
    rw [transferOf_eq_ok_iff, mem_transferPairs_code_iff]
  · intro src dst hcause
    refine (transferOf_cases src dst).resolve_left ?_
    rintro ⟨t, hpair, -⟩
    obtain ⟨hs, hd⟩ := Transfer.capable_of_pair hpair
    rcases hcause with hcause | hcause | hcause
    · exact Bool.false_ne_true (hcause.symm.trans hs)
    · exact Bool.false_ne_true (hcause.symm.trans hd)
    · exact hcause t.code (mem_transferPairs_code_iff.mpr hpair)

/-! ## The check of a catalog -/

theorem checkTransferCatalog_eq_error_iff {bits : Nat} {rows : List TransferRow} :
    checkTransferCatalog bits rows = .error .transferCatalogConfig ↔
      checkTransferCatalog bits rows ≠ .ok () := by
  unfold checkTransferCatalog
  split <;> simp

theorem transferCodes_not_nodup_iff {rows : List TransferRow} :
    ¬ (rows.map (·.code)).Nodup ↔
      ∃ i j : Fin rows.length, i < j ∧ (rows.get i).code = (rows.get j).code := by
  rw [List.Nodup, List.pairwise_map, List.pairwise_iff_get]
  push Not
  rfl

theorem transferCodes_not_fit_iff {bits : Nat} {rows : List TransferRow} :
    (¬ ∀ r ∈ rows, r.code < 2 ^ bits) ↔ ∃ r ∈ rows, 2 ^ bits ≤ r.code := by
  push Not
  rfl

theorem transferCodes_not_dense_iff {bits : Nat} {rows : List TransferRow} :
    (¬ ∀ c, c < 2 ^ bits → ∃ r ∈ rows, r.code = c) ↔
      ∃ c : Nat, c < 2 ^ bits ∧ ∀ r ∈ rows, r.code ≠ c := by
  push Not
  rfl

theorem transferPairs_not_nodup_iff {rows : List TransferRow} :
    ¬ (rows.filterMap (·.pair)).Nodup ↔
      ∃ (i j : Fin rows.length) (src dst : Reg), i < j ∧ (rows.get i).pair = some (src, dst) ∧
        (rows.get j).pair = some (src, dst) := by
  rw [List.Nodup, List.pairwise_filterMap, List.pairwise_iff_get]
  push Not
  simp

theorem transferPairs_not_capable_iff {rows : List TransferRow} :
    (¬ ∀ r ∈ rows, ∀ pair, r.pair = some pair → transferPairCapable pair = true) ↔
      ∃ r ∈ rows, ∃ src dst : Reg, r.pair = some (src, dst) ∧
        (src.canSource = false ∨ dst.canDestination = false) := by
  simp [transferPairCapable, Classical.or_iff_not_imp_left]

theorem mem_transferRows_iff {row : TransferRow} :
    row ∈ transferRows ↔ ∃ t : Transfer, t.pair = row.pair ∧ t.code.toNat = row.code := by
  obtain ⟨pair, code⟩ := row
  simp [transferRows, Transfer.mem_all]

/-- Settles O60: the check's five properties, each denied. -/
theorem transferCatalogIsChecked : Obligations.TransferCatalogIsChecked := by
  refine ⟨fun bits rows => ?_, by decide, rfl, rfl, fun src dst code => ?_⟩
  · simp only [checkTransferCatalog_eq_error_iff, Ne, checkTransferCatalog_ok_iff, not_and_or,
      transferCodes_not_nodup_iff, transferCodes_not_fit_iff, transferCodes_not_dense_iff,
      transferPairs_not_nodup_iff, transferPairs_not_capable_iff]
  · rw [mem_transferPairs_iff, mem_transferRows_iff]
    simp only [BitVec.toNat_inj]

end Sys2Proof
end

section
/-!
Control words (30_encoding.md R100, R108 to R111): a micro-step's byte holds its ALU code in bits
6:4 and its transfer code in bits 3:0, both of which are dense, so its fields are read back.
-/

namespace Sys2Proof

/-! ## The codes of the fields -/

theorem AluOp.ofCode_code (op : AluOp) : AluOp.ofCode op.code = op := by
  cases op <;> rfl

theorem AluOp.code_ofCode : ∀ c : BitVec 3, (AluOp.ofCode c).code = c := by
  decide

theorem Transfer.code_ofCode : ∀ c : BitVec 4, (Transfer.ofCode c).code = c := by
  decide

/-! ## The fields of the word -/

/-- The byte of an ordinary micro-step's two codes. -/
def packWord (alu : BitVec 3) (transfer : BitVec 4) : Byte :=
  (alu.setWidth 8 <<< 4) ||| transfer.setWidth 8

theorem packWord_getLsbD_seven (alu : BitVec 3) (transfer : BitVec 4) :
    (packWord alu transfer).getLsbD 7 = false := by
  simp [packWord]

theorem packWord_transfer (alu : BitVec 3) (transfer : BitVec 4) :
    (packWord alu transfer).extractLsb' 0 4 = transfer := by
  apply BitVec.eq_of_getLsbD_eq
  intro k hk
  have hlt : k < 8 := by omega
  simp [packWord, hk, hlt]

theorem packWord_alu (alu : BitVec 3) (transfer : BitVec 4) :
    (packWord alu transfer).extractLsb' 4 3 = alu := by
  apply BitVec.eq_of_getLsbD_eq
  intro k hk
  have hlt : 4 + k < 8 := by omega
  simp [packWord, hk, hlt]

theorem packWord_fields {word : Byte} (h : word.getLsbD 7 = false) :
    packWord (word.extractLsb' 4 3) (word.extractLsb' 0 4) = word := by
  apply BitVec.eq_of_getLsbD_eq
  intro k hk
  by_cases hlow : k < 4
  · simp [packWord, hlow, hk]
  · have hsub : 4 + (k - 4) = k := by omega
    rcases Nat.lt_succ_iff_lt_or_eq.mp hk with h7 | rfl
    · have hlt : k - 4 < 3 := by omega
      simp [packWord, hlow, hk, hlt, hsub, BitVec.getLsbD_eq_getElem]
    · rw [packWord_getLsbD_seven, h]

/-! ## The encoder and the decoder, case by case -/

/-- There is one reset step. -/
theorem MicroStep.eq_microReset {m : MicroStep} (h : m.reset = true) : m = microReset := by
  obtain ⟨transfer, alu, reset, legal⟩ := m
  cases h
  obtain ⟨rfl, rfl⟩ : transfer = .noTransfer ∧ alu = .nop := by simpa [legalStep] using legal
  rfl

@[simp] theorem encodeStep_microReset : encodeStep microReset = 0x80 := rfl

@[simp] theorem decodeWord_reset : decodeWord 0x80 = some microReset := rfl

theorem encodeStep_of_ordinary {m : MicroStep} (h : m.reset = false) :
    encodeStep m = packWord m.alu.code m.transfer.code := by
  simp [encodeStep, h, packWord]

/-- A word with bit 7 clear stands for the ordinary micro-step of its two fields. -/
theorem decodeWord_ordinary_iff {word : Byte} {m : MicroStep} (h : word.getLsbD 7 = false) :
    decodeWord word = some m ↔
      Transfer.ofCode (word.extractLsb' 0 4) = m.transfer ∧
        AluOp.ofCode (word.extractLsb' 4 3) = m.alu ∧ m.reset = false := by
  obtain ⟨transfer, alu, reset, legal⟩ := m
  simp only [decodeWord, h, Bool.false_eq_true, if_false]
  split
  next => simp [eq_comm (a := false)]
  next hillegal =>
    refine iff_of_false nofun ?_
    rintro ⟨rfl, rfl, rfl⟩
    exact hillegal legal

/-- A word with bit 7 set is the reset word or illegal. -/
theorem eq_reset_of_decodeWord {word : Byte} {m : MicroStep} (h : word.getLsbD 7 = true)
    (hm : decodeWord word = some m) : word = 0x80 ∧ m = microReset := by
  rw [decodeWord, if_pos h, Option.ite_none_right_eq_some] at hm
  exact ⟨hm.1, (Option.some.inj hm.2).symm⟩

theorem decodeWord_encodeStep (m : MicroStep) : decodeWord (encodeStep m) = some m := by
  cases h : m.reset with
  | true => rw [MicroStep.eq_microReset h, encodeStep_microReset, decodeWord_reset]
  | false =>
    rw [encodeStep_of_ordinary h, decodeWord_ordinary_iff (packWord_getLsbD_seven _ _),
      packWord_transfer, packWord_alu]
    exact ⟨m.transfer.ofCode_code, m.alu.ofCode_code, h⟩

theorem encodeStep_of_decodeWord {word : Byte} {m : MicroStep} (h : decodeWord word = some m) :
    encodeStep m = word := by
  cases hbit : word.getLsbD 7 with
  | true =>
    obtain ⟨rfl, rfl⟩ := eq_reset_of_decodeWord hbit h
    exact encodeStep_microReset
  | false =>
    obtain ⟨htransfer, halu, hreset⟩ := (decodeWord_ordinary_iff hbit).mp h
    rw [encodeStep_of_ordinary hreset, ← htransfer, ← halu, AluOp.code_ofCode,
      Transfer.code_ofCode, packWord_fields hbit]

/-- A control word is the byte of the micro-step it stands for, and of no other. -/
theorem decodeWord_eq_some_iff {word : Byte} {m : MicroStep} :
    decodeWord word = some m ↔ encodeStep m = word :=
  ⟨encodeStep_of_decodeWord, fun h => h ▸ decodeWord_encodeStep m⟩

theorem encodeStep_injective : Function.Injective encodeStep := fun m n h =>
  Option.some.inj <| by rw [← decodeWord_encodeStep m, h, decodeWord_encodeStep]

/-- Settles O7: the fields are read back, and the fields of a word make the word. -/
theorem controlWordRoundTrip : Obligations.ControlWordRoundTrip :=
  ⟨decodeWord_encodeStep, fun _ _ => encodeStep_of_decodeWord, fun _ _ h => encodeStep_injective h⟩

end Sys2Proof
end

section
/-!
What the catalog assigns each opcode (45_table_generator.md R312, R326): its kind. The kind's
sequence and operand string are what an instruction's format, its cycle count and its assembler line
follow (30_encoding.md R113, R119, 70_reset_and_hazards.md R395).
-/

namespace Sys2Proof

open Sys2Proof.Stated

/-! ## The kind of an opcode -/

/-- The kind an opcode stands for; a filler is a no-op (R326). -/
def opcodeKind (opcode : Byte) : Kind := catalogKinds.getD opcode.toNat .noOp

theorem catalogKinds_length : catalogKinds.length = 66 := by
  decide

theorem opcodeKind_of_le {opcode : Byte} (h : 66 ≤ opcode.toNat) : opcodeKind opcode = .noOp :=
  List.getD_eq_default _ _ (catalogKinds_length.symm ▸ h)

theorem opcodeKind_mem (opcode : Byte) : opcodeKind opcode ∈ catalogKinds := by
  rcases lt_or_ge opcode.toNat 66 with h | h
  · have hlt := catalogKinds_length.symm ▸ h
    rw [opcodeKind, List.getD_eq_getElem _ _ hlt]
    exact List.getElem_mem hlt
  · rw [opcodeKind_of_le h]
    simp [catalogKinds]

/-- An opcode's entry is its kind's, filler or not. -/
theorem fullCatalog_getElem? (opcode : Byte) :
    fullCatalog[opcode.toNat]? =
      some { (opcodeKind opcode).entry with filler := decide (66 ≤ opcode.toNat) } := by
  have hlen : buildCatalog.length = 66 := by rw [buildCatalog, List.length_map, catalogKinds_length]
  rcases lt_or_ge opcode.toNat 66 with h | h
  · have hlt := catalogKinds_length.symm ▸ h
    rw [fullCatalog, padCatalog, List.getElem?_append_left (hlen.symm ▸ h), buildCatalog,
      List.getElem?_map, opcodeKind, List.getD_eq_getElem _ _ hlt, List.getElem?_eq_getElem hlt]
    simp [Kind.entry, h]
  · have hfill : opcode.toNat - 66 < Config.opcodeCount - 66 :=
      Nat.sub_lt_sub_right h opcode.isLt
    rw [fullCatalog, padCatalog, List.getElem?_append_right (hlen.symm ▸ h), hlen,
      List.getElem?_replicate_of_lt hfill, opcodeKind_of_le h]
    simp [fillerEntry, Kind.entry, h]

theorem describeOpcode_eq (opcode : Byte) :
    describeOpcode opcode = ((opcodeKind opcode).name, (opcodeKind opcode).operand) := by
  rw [describeOpcode, fullCatalog_getElem?]
  rfl

theorem sequenceOf_of_stepsFor {opcode : Byte} {f : FlagState} {steps : Steps}
    (h : (opcodeKind opcode).stepsFor f = .ok steps) : sequenceOf opcode f = steps := by
  rw [sequenceOf, List.getD_eq_getElem?_getD, fullCatalog_getElem?, Option.getD_some, Entry.steps]
  simp [Kind.entry, h]

/-! ## Sequences of the kinds -/

/-- How many operand bytes a kind's sequence fetches. -/
def Kind.fetches : Kind → Nat
  | .aluOp _ x _ | .store x => if x = .imm ∨ x = .regImm then 1 else 0
  | .conditionalJump _ _ _ => 2
  | .noOp | .halt => 0

/-- How many steps a kind's sequence has. -/
def Kind.stepCount : Kind → Nat
  | .aluOp op x wb => 3 + (Kind.aluOp op x wb).fetches + wb.toNat
  | .store x => 3 + (Kind.store x).fetches
  | .conditionalJump _ _ _ => 6
  | .noOp => 2
  | .halt => 1

/-- The sequence has the fetches and the steps of its kind. -/
def Kind.Counts (k : Kind) (steps : Steps) : Prop :=
  fetchCount steps = k.fetches ∧ steps.length = k.stepCount

theorem fetchCount_nil : fetchCount [] = 0 := rfl

theorem fetchCount_cons (m : MicroStep) (steps : Steps) :
    fetchCount (m :: steps) = fetchCount steps + if m.transfer = .immFetch then 1 else 0 := by
  by_cases h : m.transfer = .immFetch <;> simp [fetchCount, h]

/-- A move of the catalog is a micro-step, and fetches no operand. -/
theorem mv_ok {src dst : Reg} {op : AluOp} (hdef : transferDefined src dst = true)
    (hop : dst = .w ↔ op ≠ .nop) : ∃ m, mv src dst op = .ok m ∧ m.transfer ≠ .immFetch := by
  rcases transferOf_cases src dst with ⟨t, hpair, ht⟩ | herror
  · obtain ⟨hsource, hdest⟩ := Transfer.pair_eq_some_iff.mp hpair
    have hlegal : legalStep t op false = true := by
      by_cases hw : dst = .w
      · simp [legalStep, hdest, hw, hop.mp hw]
      · simp [legalStep, hdest, hw, not_not.mp (mt hop.mpr hw)]
    have hfetch : t ≠ .immFetch := by
      rintro rfl
      cases hsource
    exact ⟨⟨t, op, false, hlegal⟩, by simp [mv, ht, mkStep, hlegal], hfetch⟩
  · simp [transferDefined, herror] at hdef

theorem ne_w_of_transferDefined {x : Reg} (h : transferDefined .w x = true) : x ≠ .w := by
  rintro rfl
  cases h

theorem aluSteps_ok {op : AluOp} {x : Reg} {wb : Bool} (hx : transferDefined x .w = true)
    (hop : op ≠ .nop) (hwb : wb = true → transferDefined .w x = true) :
    ∃ steps, aluSteps op x wb = .ok steps ∧ (Kind.aluOp op x wb).Counts steps := by
  obtain ⟨toW, htoW, hnone⟩ := mv_ok hx (iff_of_true rfl hop)
  cases wb with
  | false =>
    refine ⟨_, by rw [aluSteps, htoW]; rfl, ?_⟩
    by_cases hfetch : x = .imm ∨ x = .regImm <;>
      simp [Kind.Counts, Kind.fetches, Kind.stepCount, fetchCount_cons, fetchCount_nil, microFetch,
        microPcInc, microReset, hnone, hfetch]
  | true =>
    have hdef := hwb rfl
    obtain ⟨back, hback, hnone'⟩ :=
      mv_ok (op := .nop) hdef (iff_of_false (ne_w_of_transferDefined hdef) (· rfl))
    refine ⟨_, by simp only [aluSteps, htoW, hback]; rfl, ?_⟩
    by_cases hfetch : x = .imm ∨ x = .regImm <;>
      simp [Kind.Counts, Kind.fetches, Kind.stepCount, fetchCount_cons, fetchCount_nil, microFetch,
        microPcInc, microReset, hnone, hnone', hfetch]

theorem storeSteps_ok {x : Reg} (hx : transferDefined .w x = true) :
    ∃ steps, storeSteps x = .ok steps ∧ (Kind.store x).Counts steps := by
  obtain ⟨out, hout, hnone⟩ :=
    mv_ok (op := .nop) hx (iff_of_false (ne_w_of_transferDefined hx) (· rfl))
  have himm : x ≠ .imm := by
    rintro rfl
    cases hx
  refine ⟨_, by rw [storeSteps, hout]; rfl, ?_⟩
  by_cases hfetch : x = .regImm <;>
    simp [Kind.Counts, Kind.fetches, Kind.stepCount, fetchCount_cons, fetchCount_nil, microFetch,
        microPcInc, microReset, hnone, himm, hfetch]

/-- Each jump's two paths are balanced to two steps, whichever the flags choose (R280). -/
theorem jumpKinds_counts : ∀ k ∈ jumpKinds, ∀ f : FlagState,
    (k.stepsFor f).toOption.map (fun steps => (fetchCount steps, steps.length)) = some (2, 6) := by
  decide

theorem jumpKinds_ok {k : Kind} (hk : k ∈ jumpKinds) (f : FlagState) :
    ∃ steps, k.stepsFor f = .ok steps ∧ fetchCount steps = 2 ∧ steps.length = 6 := by
  have hcounts := jumpKinds_counts k hk f
  cases hsteps : k.stepsFor f with
  | error e => simp [hsteps, Except.toOption] at hcounts
  | ok steps => exact ⟨steps, rfl, by simpa [hsteps, Except.toOption] using hcounts⟩

/-- What the catalog's filters ask of an ALU entry (R311, R312) is what its sequence needs. -/
theorem aluOp_of_mem_catalogKinds {op : AluOp} {x : Reg} {wb : Bool}
    (h : Kind.aluOp op x wb ∈ catalogKinds) :
    transferDefined x .w = true ∧ op ≠ .nop ∧ (wb = true → transferDefined .w x = true) := by
  have halu : Kind.aluOp op x wb ∈ aluKinds := by
    simpa [catalogKinds, storeKinds, jumpKinds] using h
  simp only [aluKinds, List.mem_flatMap, List.mem_map, List.mem_filter] at halu
  obtain ⟨op', hop, x', ⟨-, hx⟩, wb', ⟨-, hwb⟩, heq⟩ := halu
  cases heq
  refine ⟨?_, ?_, ?_⟩
  · simp_all [aluOperand]
  · rintro rfl
    simp [catalogOps] at hop
  · rintro rfl
    simp_all [writebackAllowed]

theorem store_of_mem_catalogKinds {x : Reg} (h : Kind.store x ∈ catalogKinds) :
    transferDefined .w x = true := by
  have hstore : Kind.store x ∈ storeKinds := by
    simpa [catalogKinds, aluKinds, jumpKinds] using h
  simp_all [storeKinds]

/-- Every kind of the catalog has its sequence, in every flag state. -/
theorem Kind.stepsFor_ok {k : Kind} (hk : k ∈ catalogKinds) (f : FlagState) :
    ∃ steps, k.stepsFor f = .ok steps ∧ k.Counts steps := by
  cases k with
  | aluOp op x wb =>
    obtain ⟨hx, hop, hwb⟩ := aluOp_of_mem_catalogKinds hk
    exact aluSteps_ok hx hop hwb
  | store x => exact storeSteps_ok (store_of_mem_catalogKinds hk)
  | conditionalJump name policy swapped =>
    have hjump : Kind.conditionalJump name policy swapped ∈ jumpKinds := by
      simpa [catalogKinds, aluKinds, storeKinds] using hk
    exact jumpKinds_ok hjump f
  | noOp => exact ⟨_, rfl, rfl, rfl⟩
  | halt => exact ⟨_, rfl, rfl, rfl⟩

/-! ## Formats and kinds -/

theorem Instr.operandBytes_length_and_cycles (i : Instr) (h : i.wellFormed = true) :
    i.operandBytes.length = (opcodeKind i.opcode).fetches ∧
      i.cycles = (opcodeKind i.opcode).stepCount := by
  cases i with
  | filler code =>
    rw [Instr.opcode, opcodeKind_of_le (of_decide_eq_true h)]
    exact ⟨rfl, rfl⟩
  | _ => exact ⟨rfl, rfl⟩

/-- Settles O5: an opcode's kind fetches its format's operand bytes, and its sequence has the kind's
steps in every flag state. -/
theorem lengthAndCyclesFollowSequence : Obligations.LengthAndCyclesFollowSequence := by
  intro i f hwf
  obtain ⟨steps, hsteps, hfetch, hlen⟩ := Kind.stepsFor_ok (opcodeKind_mem i.opcode) f
  obtain ⟨hoperands, hcycles⟩ := i.operandBytes_length_and_cycles hwf
  rw [sequenceOf_of_stepsFor hsteps, hfetch, hlen]
  exact ⟨congrArg (1 + ·) hoperands, hcycles⟩

end Sys2Proof
end

section
/-!
The opcode index and the assembler's line (45_table_generator.md R331, R341; 30_encoding.md R119):
the initializer has checked that the index takes a real opcode's name and operand back to it, and a
kind's operand string says how many value bytes follow.
-/

namespace Sys2Proof

/-! ## The index -/

/-- What the check R331 says of one entry. -/
theorem indexFind_of_resolvesToItself {index : OpcodeIndex} {entries : List Entry} :
    ∀ {n k : Nat} {e : Entry}, resolvesToItself n index entries = true → entries[k]? = some e →
      e.filler = false → indexFind index e.name e.operand = some (n + k) := by
  induction entries with
  | nil => intro n k e _ h; cases h
  | cons first entries ih =>
    intro n k e hresolves h hreal
    rw [resolvesToItself, Bool.and_eq_true] at hresolves
    obtain ⟨hfirst, hrest⟩ := hresolves
    cases k with
    | zero =>
      cases h
      simpa [hreal] using hfirst
    | succ k =>
      rw [← Nat.succ_add_eq_add_succ]
      exact ih hrest h hreal

/-- The index of catalog S1 has passed the generator's check. -/
theorem opcodeIndex_resolves : resolvesToItself 0 opcodeIndex fullCatalog = true := by
  obtain ⟨-, -, index, hindex, hcheck⟩ :=
    generateFrom_ok (generateFrom_of_generateControlTable generateControlTable_eq)
  obtain rfl : index = opcodeIndex := by simpa [hindex, Except.toOption] using buildIndex_eq
  obtain ⟨-, -, hresolves, -⟩ := checkInvariants_ok hcheck
  exact hresolves

/-- A real opcode's name and operand resolve to it (R341). -/
theorem resolveOpcode_opcodeKind {opcode : Byte} (h : opcode.toNat < 66) :
    resolveOpcode (opcodeKind opcode).name (opcodeKind opcode).operand = .ok opcode := by
  have hfind := indexFind_of_resolvesToItself opcodeIndex_resolves (fullCatalog_getElem? opcode)
    (decide_eq_false h.not_ge)
  simp only [Kind.entry, Nat.zero_add] at hfind
  simp [resolveOpcode, hfind]

/-! ## Value bytes -/

theorem asmValueBytes_byte {operand : String} (h : operand = "IMM" ∨ operand = "REG_IMM")
    (b : Byte) : asmValueBytes operand (some b.toNat) = .ok [b] := by
  simp [asmValueBytes, h, b.isLt]

/-- A target is written low byte first. -/
theorem asmValueBytes_target (lo hi : Byte) :
    asmValueBytes "ADDR" (some (lo.toNat + 256 * hi.toNat)) = .ok [lo, hi] := by
  have hlt : lo.toNat + 256 * hi.toNat < 65536 := by omega
  have hlo : BitVec.ofNat 8 (lo.toNat + 256 * hi.toNat) = lo := by
    apply BitVec.eq_of_toNat_eq
    simp only [BitVec.toNat_ofNat]
    omega
  have hhi : (lo.toNat + 256 * hi.toNat) / 256 = hi.toNat := by omega
  simp [asmValueBytes, hlt, hlo, hhi]

theorem asmValueBytes_none {operand : String} (hbyte : ¬ (operand = "IMM" ∨ operand = "REG_IMM"))
    (haddr : operand ≠ "ADDR") : asmValueBytes operand none = .ok [] := by
  simp [asmValueBytes, hbyte, haddr]

theorem Reg.name_byte_iff (x : Reg) :
    x.name = "IMM" ∨ x.name = "REG_IMM" ↔ x = .imm ∨ x = .regImm := by
  cases x <;> decide

theorem Reg.name_ne_addr (x : Reg) : x.name ≠ "ADDR" := by
  cases x <;> decide

/-- A register's operand string takes one value byte exactly where the register is read through
`IMM`. -/
theorem asmValueBytes_reg {x : Reg} {i : Instr}
    (h : i.operandBytes.length = if x = .imm ∨ x = .regImm then 1 else 0) :
    asmValueBytes x.name i.asmValue = .ok i.operandBytes := by
  split at h
  next hbyte =>
    obtain ⟨b, hb⟩ := List.length_eq_one_iff.mp h
    rw [Instr.asmValue, hb]
    exact asmValueBytes_byte (x.name_byte_iff.mpr hbyte) b
  next hbyte =>
    rw [Instr.asmValue, List.length_eq_zero_iff.mp h]
    exact asmValueBytes_none (mt x.name_byte_iff.mp hbyte) x.name_ne_addr

/-- The operand string of a kind takes as many value bytes as its sequence fetches. -/
theorem asmValueBytes_kind {k : Kind} {i : Instr} (h : i.operandBytes.length = k.fetches) :
    asmValueBytes k.operand i.asmValue = .ok i.operandBytes := by
  cases k with
  | aluOp _ x _ | store x => exact asmValueBytes_reg h
  | conditionalJump =>
    obtain ⟨lo, hi, hb⟩ := List.length_eq_two.mp h
    rw [Instr.asmValue, hb]
    exact asmValueBytes_target lo hi
  | noOp | halt =>
    rw [Instr.asmValue, List.length_eq_zero_iff.mp h]
    rfl

/-! ## The line -/

theorem Instr.asmLine_eq (i : Instr) :
    i.asmLine = ⟨(opcodeKind i.opcode).name, (opcodeKind i.opcode).operand, i.asmValue⟩ := by
  rw [Instr.asmLine, describeOpcode_eq]

theorem Instr.wellFormed_of_ne_filler {i : Instr} (h : ∀ code, i ≠ .filler code) :
    i.wellFormed = true := by
  cases i with
  | filler code => exact absurd rfl (h code)
  | _ => rfl

theorem Instr.opcode_lt_of_ne_filler {i : Instr} (h : ∀ code, i ≠ .filler code) :
    i.opcode.toNat < 66 := by
  cases i with
  | filler code => exact absurd rfl (h code)
  | _ => exact Nat.le_of_ble_eq_true rfl

/-- Settles O6: the line's name and operand resolve to the opcode, its value to the operand
bytes. -/
theorem assembledLineIsEncoding : Obligations.AssembledLineIsEncoding := by
  intro i hreal
  obtain ⟨hoperands, -⟩ :=
    i.operandBytes_length_and_cycles (Instr.wellFormed_of_ne_filler hreal)
  rw [Instr.asmLine_eq, assembleLine, resolveOpcode_opcodeKind (Instr.opcode_lt_of_ne_filler hreal)]
  simp only [asmValueBytes_kind hoperands]
  rfl

end Sys2Proof
end

section
/-!
The 47 legal control words (30_encoding.md R109, 45_table_generator.md R332) and the cycle that
reads one (40_microstep.md R170).
-/

namespace Sys2Proof

open Sys2Proof.Stated

/-! ## What a micro-step encodes to -/

/-- The codes of an ordinary micro-step make a listed word. -/
theorem packWord_mem_legalWords : ∀ (transfer : BitVec 4) (alu : BitVec 3),
    legalStep (Transfer.ofCode transfer) (AluOp.ofCode alu) false = true →
      packWord alu transfer ∈ legalWords := by
  decide

theorem encodeStep_mem_legalWords (m : MicroStep) : encodeStep m ∈ legalWords := by
  cases hreset : m.reset with
  | true =>
    rw [MicroStep.eq_microReset hreset]
    decide
  | false =>
    rw [encodeStep_of_ordinary hreset]
    refine packWord_mem_legalWords _ _ ?_
    rw [Transfer.ofCode_code, AluOp.ofCode_code, ← hreset]
    exact m.legal

/-! ## Where each stands in the ROM -/

/-- The cells at which each operand's word stands in the block of an ALU operation whose
first opcode is `base` (30_encoding.md R116). -/
def aluBlockCells (base : Byte) : List (Byte × FlagState × BitVec 4) :=
  [(base, 0, 0), (base + 2, 0, 1), (base + 4, 0, 0), (base + 6, 0, 1), (base + 7, 0, 0)]

/-- A cell of the ROM for each legal word, in the order of R109. -/
def legalWordCells : List (Byte × FlagState × BitVec 4) :=
  [(0x41, 0, 0), (0x3B, 0, 4), (0x35, 0, 0), (0x36, 0, 1), (0x37, 0, 0), (0x38, 0, 0), (0x39, 0, 0),
    (0x3A, 0, 1), (0x3A, 0, 3), (0x3A, 0, 4), (0x3A, 0, 0), (0x40, 0, 0)] ++
  aluBlockCells 0x00 ++ aluBlockCells 0x08 ++ aluBlockCells 0x10 ++ aluBlockCells 0x18 ++
  aluBlockCells 0x20 ++ aluBlockCells 0x28 ++
  [(0x30, 0, 0), (0x31, 0, 1), (0x32, 0, 0), (0x33, 0, 1), (0x34, 0, 0)]

theorem romByte_legalWordCells :
    legalWordCells.map (fun c => romByte c.1 c.2.1 c.2.2) = legalWords := by
  decide +kernel

theorem exists_romByte_of_mem_legalWords {word : Byte} (h : word ∈ legalWords) :
    ∃ (o : Byte) (f : FlagState) (k : BitVec 4), romByte o f k = word := by
  rw [← romByte_legalWordCells] at h
  obtain ⟨⟨o, f, k⟩, -, hcell⟩ := List.mem_map.mp h
  exact ⟨o, f, k, hcell⟩

/-- Every byte of the ROM has passed the generator's check (R330). -/
theorem legalWord_romByte (o : Byte) (f : FlagState) (k : BitVec 4) :
    legalWord (romByte o f k) = true := by
  obtain ⟨-, -, index, -, hcheck⟩ :=
    generateFrom_ok (generateFrom_of_generateControlTable generateControlTable_eq)
  obtain ⟨-, hrows, -, -⟩ := checkInvariants_ok hcheck
  obtain ⟨hfour, hrow⟩ := hrows _ (controlTable_getD_mem o)
  have hf : f.toNat < (controlTable.getD o.toNat []).length := hfour ▸ f.isLt
  obtain ⟨hlen, hword⟩ := hrow _ (List.getElem_mem hf)
  have hk : k.toNat < (controlTable.getD o.toNat [])[f.toNat].length := hlen ▸ k.isLt
  rw [romByte, List.getD_eq_getElem _ _ hf, List.getD_eq_getElem _ _ hk]
  exact hword _ (List.getElem_mem hk)

theorem legalWord_iff {word : Byte} : legalWord word = true ↔ word ∈ legalWords := by
  constructor
  · intro h
    obtain ⟨m, hm⟩ := Option.isSome_iff_exists.mp h
    exact encodeStep_of_decodeWord hm ▸ encodeStep_mem_legalWords m
  · intro h
    obtain ⟨o, f, k, rfl⟩ := exists_romByte_of_mem_legalWords h
    exact legalWord_romByte o f k

/-- Settles O8: a legal word is some micro-step's, and every listed word stands in the ROM, which
holds legal words only. -/
theorem legalWordsAreThe47 : Obligations.LegalWordsAreThe47 :=
  ⟨fun _ => legalWord_iff, rfl, by decide, fun _ => exists_romByte_of_mem_legalWords⟩

end Sys2Proof

namespace Sys2Proof.Machine

open Sys2Proof.Stated

/-! ## The cycle that reads a word -/

theorem decodeWord_eq_none_iff {word : Byte} : decodeWord word = none ↔ word ∉ legalWords := by
  rw [← legalWord_iff, legalWord, Option.not_isSome_iff_eq_none]

/-- Only the reset word stands for a reset step. -/
theorem reset_eq_false_of_decodeWord {word : Byte} {m : MicroStep} (hm : decodeWord word = some m)
    (h : word ≠ 0x80) : m.reset = false := by
  rw [← Bool.not_eq_true]
  intro hreset
  rw [MicroStep.eq_microReset hreset] at hm
  exact h (encodeStep_of_decodeWord hm).symm

theorem cycle_of_illegalWord {s : State} (h : s.controlWord ∉ legalWords) :
    cycle s = .fault (.illegalControlWord s.controlWord) := by
  simp [cycle, decodeWord_eq_none_iff.mpr h]

theorem cycle_of_resetWord {s : State} (h : s.controlWord = 0x80) :
    cycle s = .next (resetSequencer s) :=
  cycle_of_decode s microReset (h ▸ decodeWord_reset)

/-- Settles O29: the word is illegal, or its micro-step is the reset step, or it is an ordinary one,
whose transfer leaves `IR` and `STEP`. -/
theorem cycleResetsOrAdvances : Obligations.CycleResetsOrAdvances := by
  refine fun s => ⟨cycle_of_illegalWord, cycle_of_resetWord, fun hlegal hword => ?_⟩
  obtain ⟨m, hm⟩ := Option.isSome_iff_exists.mp (legalWord_iff.mpr hlegal)
  have hreset := reset_eq_false_of_decodeWord hm hword
  obtain ⟨-, -, hir, -⟩ := execTransfer_frame m.transfer m.alu s
  refine ⟨_, cycle_of_decode s m hm, ?_, ?_⟩
  · rw [microStep_ordinary m s hreset, State.setStepCtr_stepCtr]
  · rw [microStep_ordinary m s hreset, State.setStepCtr_ir, hir]

end Sys2Proof.Machine
end

section
/-!
The ALU's results and carries (40_microstep.md R175 to R181). Each carry is read off the value of
the 9-bit sum.
-/

namespace Sys2Proof.Machine

/-! ## The three sums -/

theorem aluResult_add_carry_iff (w x : Byte) :
    (aluResult .add w x).2 = true ↔ 256 ≤ w.toNat + x.toNat := by
  rw [aluResult, sumResult_carry, addSum_toNat, decide_eq_true_iff]

theorem aluResult_sub_fst (w x : Byte) : (aluResult .sub w x).1 = w - x := by
  apply BitVec.eq_of_toNat_eq
  rw [aluResult, sumResult_toNat, subSum_toNat, BitVec.toNat_sub]
  omega

theorem aluResult_sub_carry_iff (w x : Byte) :
    (aluResult .sub w x).2 = true ↔ x.toNat ≤ w.toNat := by
  rw [aluResult, sumResult_carry, subSum_toNat, decide_eq_true_iff]
  omega

theorem aluResult_sub_self (x : Byte) : aluResult .sub x x = (0, true) :=
  Prod.ext ((aluResult_sub_fst x x).trans (BitVec.sub_self x))
    ((aluResult_sub_carry_iff x x).mpr le_rfl)

theorem aluResult_neg_fst (w x : Byte) : (aluResult .neg w x).1 = 0 - x := by
  apply BitVec.eq_of_toNat_eq
  rw [aluResult, sumResult_toNat, negSum_toNat, BitVec.toNat_sub]
  rfl

theorem aluResult_neg_carry_iff (w x : Byte) : (aluResult .neg w x).2 = true ↔ x = 0 := by
  rw [aluResult, sumResult_carry, negSum_toNat, decide_eq_true_iff, ← BitVec.toNat_inj]
  simp only [BitVec.ofNat_eq_ofNat, BitVec.toNat_ofNat]
  omega

/-- Settles O12: the 9-bit sum is the sum of the values. -/
theorem addResultAndCarry : Obligations.AddResultAndCarry :=
  ⟨rfl, fun w x => ⟨rfl, rfl, aluResult_add_carry_iff w x⟩⟩

/-- Settles O13: the 9-bit sum is `W + (256 - X)`. -/
theorem subResultAndCarry : Obligations.SubResultAndCarry :=
  ⟨rfl, fun w x => ⟨rfl, rfl, aluResult_sub_fst w x, aluResult_sub_carry_iff w x,
    fun h => h ▸ aluResult_sub_self w⟩⟩

/-- Settles O14: the 9-bit sum is `256 - X`. -/
theorem negResultAndCarry : Obligations.NegResultAndCarry :=
  ⟨rfl, fun w _ x => ⟨rfl, rfl, aluResult_neg_fst w x, aluResult_neg_carry_iff w x, rfl, rfl⟩⟩

/-! ## The carry-free operations -/

/-- Settles O15: each is the operation on bit vectors, which works bit by bit. -/
theorem logicResultsClearCarry : Obligations.LogicResultsClearCarry :=
  ⟨rfl, rfl, rfl, fun _ _ => ⟨rfl, rfl, rfl, fun _ =>
    ⟨BitVec.getLsbD_and, BitVec.getLsbD_or, BitVec.getLsbD_xor⟩⟩⟩

end Sys2Proof.Machine

namespace Sys2Proof

/-- The catalog has a writeback variant only where the filter admits one. -/
theorem writebackAllowed_of_mem_catalogKinds {op : AluOp} {x : Reg}
    (h : Kind.aluOp op x true ∈ catalogKinds) : writebackAllowed op x = true := by
  have halu : Kind.aluOp op x true ∈ aluKinds := by
    simpa [catalogKinds, storeKinds, jumpKinds] using h
  simp only [aluKinds, List.mem_flatMap, List.mem_map, List.mem_filter] at halu
  obtain ⟨op', -, x', -, wb', ⟨-, hwb⟩, heq⟩ := halu
  cases heq
  simpa using hwb

/-- Settles O16: the writeback filter refuses `LOAD`, whatever the operand. -/
theorem loadIsPure : Obligations.LoadIsPure :=
  ⟨rfl, fun _ _ => rfl, fun _ hmem => Bool.noConfusion (writebackAllowed_of_mem_catalogKinds hmem)⟩

end Sys2Proof
end

section
/-!
The micro-step constructor (40_microstep.md R150) and the branch balancer (R188 to R192).
-/

namespace Sys2Proof

/-! ## The constructor -/

theorem mkStep_of_legal {t : Transfer} {op : AluOp} {reset : Bool}
    (h : legalStep t op reset = true) : mkStep t op reset = .ok ⟨t, op, reset, h⟩ := dif_pos h

theorem mkStep_of_illegal {t : Transfer} {op : AluOp} {reset : Bool}
    (h : ¬ legalStep t op reset = true) : mkStep t op reset = .error (.illegalStep t op reset) :=
  dif_neg h

/-- Conditions (a) to (c) of R150. -/
theorem legalStep_iff (t : Transfer) (op : AluOp) (reset : Bool) :
    legalStep t op reset = true ↔
      if reset = true then t = .noTransfer ∧ op = .nop
      else if t.dest = some .w then op ≠ .nop else op = .nop := by
  unfold legalStep
  split
  · simp
  · split <;> simp_all

/-- Settles O11: the constructor is its legality check. -/
theorem microStepConstructorChecks : Obligations.MicroStepConstructorChecks := by
  intro t op reset
  rw [← legalStep_iff]
  by_cases h : legalStep t op reset = true
  · rw [mkStep_of_legal h]
    refine ⟨iff_of_true ⟨_, rfl⟩ h, ?_, nofun⟩
    rintro m ⟨⟩
    exact ⟨rfl, rfl, rfl, fun hreset => if_pos hreset⟩
  · rw [mkStep_of_illegal h]
    refine ⟨iff_of_false (fun ⟨_, hm⟩ => nomatch hm) h, nofun, ?_⟩
    rintro e ⟨⟩
    rfl

/-! ## The balancer -/

theorem FlagState.cases (f : FlagState) : f = 0 ∨ f = 1 ∨ f = 2 ∨ f = 3 := by
  revert f
  decide

/-- Settles O18: the array of each policy, read at each of the four flag states. -/
theorem policiesPlaceTakenPath : Obligations.PoliciesPlaceTakenPath := by
  intro t e f
  refine ⟨?_, ?_, ?_, rfl, rfl, rfl, rfl, fun _ => rfl⟩ <;>
    obtain rfl | rfl | rfl | rfl := FlagState.cases f <;> rfl

theorem length_le_longestBranch {b : Steps} {branches : List Steps} (h : b ∈ branches) :
    b.length ≤ longestBranch branches := by
  induction branches with
  | nil => cases h
  | cons first rest ih =>
    rcases List.mem_cons.mp h with rfl | h
    · exact Nat.le_max_left _ _
    · exact (ih h).trans (Nat.le_max_right _ _)

theorem exists_length_eq_longestBranch {branches : List Steps} (h : branches ≠ []) :
    ∃ b ∈ branches, b.length = longestBranch branches := by
  induction branches with
  | nil => exact absurd rfl h
  | cons first rest ih =>
    rcases le_total (longestBranch rest) first.length with hle | hle
    · exact ⟨first, List.mem_cons_self, (Nat.max_eq_left hle).symm⟩
    · by_cases hrest : rest = []
      · subst hrest
        exact ⟨first, List.mem_cons_self, (Nat.max_eq_left (Nat.zero_le _)).symm⟩
      · obtain ⟨b, hb, hlen⟩ := ih hrest
        exact ⟨b, List.mem_cons_of_mem _ hb, hlen.trans (Nat.max_eq_right hle).symm⟩

theorem balance_length {f : FlagState} {branches : List Steps}
    (h : branchOf f branches ∈ branches) :
    (balance f branches).length = longestBranch branches := by
  have hle := length_le_longestBranch h
  simp only [balance, List.length_append, List.length_replicate]
  omega

theorem branchOf_mem (f : FlagState) {branches : List Steps} (h : branches.length = 4) :
    branchOf f branches ∈ branches := by
  have hf : f.toNat < branches.length := h ▸ f.isLt
  rw [branchOf, List.getD_eq_getElem _ _ hf]
  exact List.getElem_mem hf

/-- Settles O19: the longest length is an upper bound, is some branch's, and is the
balanced one's. -/
theorem balancePadsToLongest : Obligations.BalancePadsToLongest := by
  intro f branches hfour
  have hne : branches ≠ [] := List.ne_nil_of_length_eq_add_one hfour
  exact ⟨longestBranch branches, fun _ => length_le_longestBranch,
    exists_length_eq_longestBranch hne, balance_length (branchOf_mem f hfour), _, rfl⟩

end Sys2Proof
end

section
/-!
One cycle, word by word (40_microstep.md R160 to R169). A control word is the byte of one
micro-step, so the cycle is that micro-step's transfer.
-/

namespace Sys2Proof.Machine

open Sys2Proof.Stated

/-- A cycle whose word is an ordinary micro-step's runs its transfer and moves `STEP` on. -/
theorem cycle_of_ordinary {s : State} {m : MicroStep} (hw : s.controlWord = encodeStep m)
    (hm : m.reset = false) :
    cycle s = .next ((execTransfer m.transfer m.alu s).setStepCtr (s.stepCtr + 1)) := by
  rw [cycle_of_decode s m (hw ▸ decodeWord_encodeStep m), microStep_ordinary m s hm]

/-- The word of a transfer that does not write `W`: no ALU operation beside it (R150). -/
theorem cycle_of_transferWord {s : State} {word : Byte} (transfer : Transfer)
    (hlegal : legalStep transfer .nop false = true)
    (hword : encodeStep ⟨transfer, .nop, false, hlegal⟩ = word) (h : s.controlWord = word) :
    cycle s = .next ((execTransfer transfer .nop s).setStepCtr (s.stepCtr + 1)) :=
  cycle_of_ordinary (h.trans hword.symm) rfl

/-! ## Counter and latch words -/

theorem add_one_eq_ofNat (a : Addr) : a + 1 = BitVec.ofNat 16 (a.toNat + 1) := by
  apply BitVec.eq_of_toNat_eq
  simp

/-- Replacing the counter's low byte. -/
theorem highByte_append_eq_ofNat (pc : Addr) (lo : Byte) :
    pc.extractLsb' 8 8 ++ lo = BitVec.ofNat 16 (pc.toNat / 256 * 256 + lo.toNat) := by
  apply BitVec.eq_of_toNat_eq
  have hpc := pc.isLt
  simp only [toNat_append_eq_mul_add, BitVec.extractLsb'_toNat, Nat.shiftRight_eq_div_pow,
    BitVec.toNat_ofNat]
  omega

/-- Replacing the counter's high byte. -/
theorem append_lowByte_eq_ofNat (hi : Byte) (pc : Addr) :
    hi ++ pc.extractLsb' 0 8 = BitVec.ofNat 16 (hi.toNat * 256 + pc.toNat % 256) := by
  apply BitVec.eq_of_toNat_eq
  simp only [toNat_append_eq_mul_add, BitVec.extractLsb'_toNat, Nat.shiftRight_eq_div_pow,
    BitVec.toNat_ofNat]
  omega

/-- Settles O30: each word's transfer, with the counter's new value as a number. -/
theorem counterWordsActByRule : Obligations.CounterWordsActByRule := by
  intro s
  simp only [← add_one_eq_ofNat, ← highByte_append_eq_ofNat, ← append_lowByte_eq_ofNat]
  exact ⟨cycle_of_transferWord .noTransfer rfl rfl,
    cycle_of_transferWord .immToTmp rfl rfl,
    cycle_of_transferWord .tmpToPcL rfl rfl,
    cycle_of_transferWord .immToPcH rfl rfl,
    cycle_of_transferWord .immFetch rfl rfl,
    cycle_of_transferWord .pcInc rfl rfl⟩

/-! ## Words that copy the accumulator -/

/-- A register-file write, read back entry by entry. -/
theorem grByte_setGrByte_eq_grWith (s : State) (i v : Byte) :
    (s.setGrByte i v).grByte = grWith s i v :=
  funext fun j => s.grByte_setGrByte i j v

/-- Settles O31: each word's transfer copies `W`, two of them into the register file. -/
theorem moveWordsCopyAccumulator : Obligations.MoveWordsCopyAccumulator := by
  refine fun s => ⟨cycle_of_transferWord .wToSp rfl rfl,
    cycle_of_transferWord .wToOutA rfl rfl,
    cycle_of_transferWord .wToOutB rfl rfl,
    fun h => ⟨_, cycle_of_transferWord .wToRegImm rfl rfl h, ?_, rfl⟩,
    fun h => ⟨_, cycle_of_transferWord .wToRegSp rfl rfl h, ?_, rfl⟩⟩
  · exact congrFun (grByte_setGrByte_eq_grWith s s.imm s.w)
  · exact congrFun (grByte_setGrByte_eq_grWith s s.sp s.w)

end Sys2Proof.Machine

namespace Sys2Proof

/-! ## Words that write the accumulator -/

/-- The transfer that brings an operand to `W` (R161). -/
def Source.transfer : Source → Transfer
  | .sp => .spToW
  | .regImm => .regImmToW
  | .regSp => .regSpToW
  | .imm => .immToW
  | .inPort => .inToW

/-- The transfer that copies `W` out (R169). -/
def Dest.transfer : Dest → Transfer
  | .sp => .wToSp
  | .regImm => .wToRegImm
  | .regSp => .wToRegSp
  | .outA => .wToOutA
  | .outB => .wToOutB

/-- Only an operand's transfer writes `W`. -/
theorem Transfer.exists_source_of_dest_eq_w {t : Transfer} (h : t.dest = some .w) :
    ∃ src : Source, t = src.transfer := by
  cases t with
  | spToW => exact ⟨.sp, rfl⟩
  | regImmToW => exact ⟨.regImm, rfl⟩
  | regSpToW => exact ⟨.regSp, rfl⟩
  | immToW => exact ⟨.imm, rfl⟩
  | inToW => exact ⟨.inPort, rfl⟩
  | _ => cases h

theorem MicroStep.reset_eq_false_of_dest {m : MicroStep} {r : Reg}
    (h : m.transfer.dest = some r) : m.reset = false := by
  rw [← Bool.not_eq_true]
  intro hreset
  rw [MicroStep.eq_microReset hreset] at h
  cases h

end Sys2Proof

namespace Sys2Proof.Machine

open Sys2Proof.Stated

@[simp] theorem execTransfer_source (src : Source) (op : AluOp) (s : State) :
    execTransfer src.transfer op s = aluToW op src s := by
  cases src <;> rfl

@[simp] theorem execTransfer_dest (dst : Dest) (op : AluOp) (s : State) :
    execTransfer dst.transfer op s = moveW dst s := by
  cases dst <;> rfl

theorem wordOperand_source (src : Source) (s : State) :
    wordOperand s src.transfer = operandValue src s := by
  cases src <;> rfl

theorem aluToW_samples (op : AluOp) (src : Source) (s : State) :
    Samples (src.transfer == .inToW) s (aluToW op src s) := by
  cases src <;> exact And.intro rfl rfl

/-- Settles O32: the word's transfer is some operand's, so the cycle is the ALU's write. -/
theorem aluWordsWriteAccumulatorAndFlags : Obligations.AluWordsWriteAccumulatorAndFlags := by
  intro s m hdest hword
  have hcycle := cycle_of_ordinary hword (MicroStep.reset_eq_false_of_dest hdest)
  obtain ⟨src, hsrc⟩ := Transfer.exists_source_of_dest_eq_w hdest
  rw [hsrc, execTransfer_source] at hcycle
  rw [hsrc, wordOperand_source]
  refine ⟨_, hcycle, ?_, ?_, aluToW_samples m.alu src s, ?_⟩
  · rw [aluToW_eq]
    rfl
  · rw [aluToW_eq]
    exact beq_iff_eq
  · rw [aluToW_eq]
    rfl

end Sys2Proof.Machine
end

section
/-!
How every instruction ends (40_microstep.md R171, 70_reset_and_hazards.md R383): with the reset
step, so at a boundary, with `PC` past the bytes it fetched, at its jump target, or, for `HALT`,
where it was.
-/

namespace Sys2Proof

open Sys2Proof.Stated

/-! ## Jumps -/

/-- Whether a jump is taken, from the carry and the zero flag (43_jump.md R281 to R286). -/
def Instr.taken : Instr → Bool → Bool → Bool
  | .jmp _, _, _ => true
  | .jz _, _, z => z
  | .jnz _, _, z => !z
  | .jc _, c, _ => c
  | .jnc _, c, _ => !c
  | .jzc _, c, z => c && z
  | _, _, _ => false

theorem exists_jumpTarget_of_isJump {i : Instr} (h : IsJump i) :
    ∃ target, jumpTarget i = some target := by
  cases i with
  | jmp target | jz target | jnz target | jc target | jnc target | jzc target => exact ⟨target, rfl⟩
  | _ => exact h.elim

theorem isJump_of_jumpTarget {i : Instr} {target : Addr} (h : jumpTarget i = some target) :
    IsJump i := by
  cases i with
  | jmp | jz | jnz | jc | jnc | jzc => trivial
  | _ => cases h

theorem operandBytes_of_jumpTarget {i : Instr} {target : Addr} (h : jumpTarget i = some target) :
    i.operandBytes = [targetLo target, targetHi target] := by
  cases i <;> cases h <;> rfl

end Sys2Proof

namespace Sys2Proof.Machine

open Sys2Proof.Stated

theorem exec_of_jumpTarget {i : Instr} {target : Addr} (h : jumpTarget i = some target)
    (s : State) : exec i s = .next (jumpIf (i.taken s.flagC s.flagZ) target s) := by
  cases i <;> cases h <;> rfl

theorem stagesOf_of_jumpTarget {i : Instr} {target : Addr} (h : jumpTarget i = some target) :
    stagesOf i = none := by
  cases i <;> cases h <;> rfl

/-- An instruction has stages, or is a jump, or is `HALT`. -/
theorem stages_or_jump_or_halt (i : Instr) :
    (∃ p, stagesOf i = some p) ∨ (∃ target, jumpTarget i = some target) ∨ i = .halt := by
  cases hp : stagesOf i with
  | some p => exact .inl ⟨p, rfl⟩
  | none => exact .inr ((isJump_or_halt_of_stagesOf hp).imp_left exists_jumpTarget_of_isJump)

theorem operandBytes_of_stagesOf {i : Instr} {p : Stages} (h : stagesOf i = some p) :
    i.operandBytes = p.operand.toList := by
  cases i <;> cases h <;> rfl

/-! ## The state before the closing reset step -/

/-- What the stages leave, up to the reset step. -/
def Stages.beforeReset (p : Stages) (s : State) : State :=
  pcInc (copyStage p.copy (aluStage p.alu (fetchStage p.operand s)))

theorem Stages.run_eq (p : Stages) (s : State) : p.run s = resetSequencer (p.beforeReset s) := rfl

/-- What a jump leaves, up to the reset step. -/
def jumpBeforeReset (taken : Bool) (target : Addr) (s : State) : State :=
  if taken then jumpTaken (fetchTarget target s) else pcInc (fetchTarget target s)

theorem jumpIf_eq (taken : Bool) (target : Addr) (s : State) :
    jumpIf taken target s = resetSequencer (jumpBeforeReset taken target s) := rfl

theorem resetSequencer_atBoundary (s : State) : (resetSequencer s).AtBoundary := ⟨rfl, rfl⟩

/-- Every instruction ends with the reset step. -/
theorem exec_eq_resetSequencer (i : Instr) (s : State) :
    ∃ u, exec i s = .next (resetSequencer u) := by
  obtain ⟨p, hp⟩ | ⟨target, ht⟩ | rfl := stages_or_jump_or_halt i
  · exact ⟨_, exec_of_stagesOf hp s⟩
  · exact ⟨_, exec_of_jumpTarget ht s⟩
  · exact ⟨s, rfl⟩

theorem exec_atBoundary {i : Instr} {s t : State} (h : exec i s = .next t) : t.AtBoundary := by
  obtain ⟨u, hu⟩ := exec_eq_resetSequencer i s
  cases h.symm.trans hu
  exact resetSequencer_atBoundary u

/-! ## Where `PC` ends -/

theorem fetchStage_pc (operand : Option Byte) (s : State) :
    (fetchStage operand s).pc = s.pc + BitVec.ofNat 16 operand.toList.length := by
  cases operand with
  | none => exact (BitVec.add_zero s.pc).symm
  | some b => rfl

theorem aluStage_pc (alu : Option (AluOp × Source)) (s : State) : (aluStage alu s).pc = s.pc := by
  rcases alu with _ | ⟨op, src⟩
  · rfl
  · rw [aluStage, aluToW_eq]

theorem copyStage_pc (copy : Option Dest) (s : State) : (copyStage copy s).pc = s.pc := by
  rcases copy with _ | dst
  · rfl
  · rw [copyStage, moveW_eq]

theorem Stages.run_pc (p : Stages) (s : State) :
    (p.run s).pc = s.pc + BitVec.ofNat 16 (1 + p.operand.toList.length) := by
  have hpc : (p.run s).pc = (copyStage p.copy (aluStage p.alu (fetchStage p.operand s))).pc + 1 :=
    rfl
  rw [hpc, copyStage_pc, aluStage_pc, fetchStage_pc, BitVec.add_assoc, BitVec.ofNat_add,
    BitVec.add_comm (BitVec.ofNat 16 1)]
  rfl

/-- A taken jump puts the two latched bytes together. -/
theorem jumpIf_taken_pc (target : Addr) (s : State) : (jumpIf true target s).pc = target := by
  have hpc : (jumpIf true target s).pc =
      targetHi target ++ ((s.pc + 1 + 1).extractLsb' 8 8 ++ targetLo target).extractLsb' 0 8 := rfl
  rw [hpc, BitVec.extractLsb'_append_eq_right]
  exact targetOf_bytes target

theorem jumpIf_notTaken_pc (target : Addr) (s : State) :
    (jumpIf false target s).pc = s.pc + BitVec.ofNat 16 3 := pc_add_three s.pc

/-- Settles O59: the closing reset step makes the boundary, and `PC` is what the fetches, the jump
or `HALT` leave of it. -/
theorem instructionEndsAtNextOpcode : Obligations.InstructionEndsAtNextOpcode := by
  intro i s
  obtain ⟨p, hp⟩ | ⟨target, ht⟩ | rfl := stages_or_jump_or_halt i
  · have hexec := exec_of_stagesOf hp s
    refine ⟨_, hexec, exec_atBoundary hexec, ?_, fun _ _ => ?_, fun target ht => ?_⟩
    · rintro rfl
      cases hp
    · rw [p.run_pc, ← operandBytes_of_stagesOf hp, BitVec.toNat_add, BitVec.toNat_ofNat,
        Nat.add_mod_mod]
      rfl
    · cases (stagesOf_of_jumpTarget ht).symm.trans hp
  · have hexec := exec_of_jumpTarget ht s
    refine ⟨_, hexec, exec_atBoundary hexec, ?_,
      fun _ hjump => absurd (isJump_of_jumpTarget ht) hjump, fun target' ht' => ?_⟩
    · rintro rfl
      cases ht
    · obtain rfl : target = target' := Option.some.inj (ht.symm.trans ht')
      have hlen : i.length = 3 := by rw [Instr.length, operandBytes_of_jumpTarget ht]; rfl
      cases i.taken s.flagC s.flagZ with
      | true => exact .inl (jumpIf_taken_pc target s)
      | false =>
        right
        rw [jumpIf_notTaken_pc, hlen, BitVec.toNat_add]
        rfl
  · exact ⟨_, rfl, resetSequencer_atBoundary s, fun _ => rfl, fun h => absurd rfl h, nofun⟩

end Sys2Proof.Machine
end

section
/-!
The control ROM as sequences of micro-steps: what the sequencer reads in a row is the catalog's
sequence of the opcode (45_table_generator.md R324), and that sequence is the instruction's stages,
or its jump path, with one reset step after them (41_alu.md R200, 42_store.md R270, 43_jump.md R280,
44_nop_halt.md R300, R301).
-/

namespace Sys2Proof

open Sys2Proof.Stated

/-! ## A byte of the ROM -/

/-- A padded row reads as its sequence, and as reset steps after it. -/
theorem padRow_getD (steps : Steps) (k : Nat) :
    (padRow steps).getD k 0x80 = encodeStep (steps.getD k microReset) := by
  rcases lt_or_ge k steps.length with h | h
  · rw [padRow, List.getD_append _ _ _ _ (by simpa using h), ← encodeStep_microReset, List.getD_map]
  · rw [padRow, List.getD_append_right _ _ _ _ (by simpa using h), List.getD_eq_default _ _ h,
      ← encodeStep_microReset, List.getD_eq_getElem?_getD, List.getElem?_getD_replicate_default_eq]

theorem Entry.rows_getD (e : Entry) (f : FlagState) :
    e.rows.getD f.toNat [] = padRow (e.steps f) := by
  obtain rfl | rfl | rfl | rfl := FlagState.cases f <;> rfl

theorem romByte_eq (o : Byte) (f : FlagState) (k : BitVec 4) :
    romByte o f k = encodeStep ((sequenceOf o f).getD k.toNat microReset) := by
  have hrows : controlTable.getD o.toNat [] = (fullCatalog.getD o.toNat fillerEntry).rows := by
    simp [controlTable, fullCatalog_getElem?]
  rw [romByte, hrows, Entry.rows_getD, padRow_getD, sequenceOf]

theorem Instr.cycles_le (i : Instr) : i.cycles ≤ 6 := by
  cases i <;> exact Nat.le_of_ble_eq_true rfl

end Sys2Proof

namespace Sys2Proof.Machine

open Sys2Proof.Stated

/-! ## The micro-steps of the stages -/

theorem legalStep_source (src : Source) {op : AluOp} (h : op ≠ .nop) :
    legalStep src.transfer op false = true := by
  rw [legalStep_iff]
  cases src <;> exact h

theorem legalStep_dest (dst : Dest) : legalStep dst.transfer .nop false = true := by
  cases dst <;> rfl

/-- The fetch's step. -/
def fetchSteps : Option Byte → Steps
  | none => []
  | some _ => [microFetch]

/-- The operation's step, as the catalog builds it. -/
def aluStageSteps : Option (AluOp × Source) → Steps
  | none => []
  | some (op, src) => (mkStep src.transfer op false).toOption.toList

theorem aluStageSteps_some {op : AluOp} (src : Source) (h : op ≠ .nop) :
    aluStageSteps (some (op, src)) = [⟨src.transfer, op, false, legalStep_source src h⟩] := by
  rw [aluStageSteps, mkStep_of_legal]
  rfl

/-- The copy's step. -/
def copySteps : Option Dest → Steps
  | none => []
  | some dst => [⟨dst.transfer, .nop, false, legalStep_dest dst⟩]

/-- The sequence of an instruction with stages, up to its reset step. -/
def Stages.body (p : Stages) : Steps :=
  fetchSteps p.operand ++ aluStageSteps p.alu ++ copySteps p.copy ++ [microPcInc]

/-- `IMM->TMP` (R164). -/
def microImmToTmp : MicroStep := ⟨.immToTmp, .nop, false, rfl⟩

/-- `TMP->PC_L` (R165). -/
def microTmpToPcL : MicroStep := ⟨.tmpToPcL, .nop, false, rfl⟩

/-- `IMM->PC_H` (R166). -/
def microImmToPcH : MicroStep := ⟨.immToPcH, .nop, false, rfl⟩

/-- The sequence of a jump, up to its reset step; the path not taken is balanced by a no-op. -/
def jumpBody (taken : Bool) : Steps :=
  [microFetch, microImmToTmp, microFetch] ++
    if taken then [microTmpToPcL, microImmToPcH] else [microPcInc, microNop]

/-- The steps of an instruction in a flag state, up to its reset step. -/
def instrBody (i : Instr) (f : FlagState) : Steps :=
  match stagesOf i, jumpTarget i with
  | some p, _ => p.body
  | none, some _ => jumpBody (i.taken (f.getLsbD 1) (f.getLsbD 0))
  | none, none => []

theorem instrBody_of_stagesOf {i : Instr} {p : Stages} (h : stagesOf i = some p)
    (f : FlagState) : instrBody i f = p.body := by
  rw [instrBody, h]

theorem instrBody_of_jumpTarget {i : Instr} {target : Addr} (h : jumpTarget i = some target)
    (f : FlagState) : instrBody i f = jumpBody (i.taken (f.getLsbD 1) (f.getLsbD 0)) := by
  rw [instrBody, stagesOf_of_jumpTarget h, h]

theorem instrBody_halt (f : FlagState) : instrBody .halt f = [] := rfl

/-! ## The catalog's sequence of an instruction -/

/-- The catalog gives each opcode the steps of its instruction. -/
theorem stepsFor_opcodeKind (i : Instr) (h : i.wellFormed = true) (f : FlagState) :
    (opcodeKind i.opcode).stepsFor f = .ok (instrBody i f ++ [microReset]) := by
  cases i with
  | filler code =>
    rw [Instr.opcode, opcodeKind_of_le (of_decide_eq_true h)]
    rfl
  | jmp | jz | jnz | jc | jnc | jzc =>
    obtain rfl | rfl | rfl | rfl := FlagState.cases f <;> rfl
  | _ => rfl

theorem sequenceOf_opcode (i : Instr) (h : i.wellFormed = true) (f : FlagState) :
    sequenceOf i.opcode f = instrBody i f ++ [microReset] :=
  sequenceOf_of_stepsFor (stepsFor_opcodeKind i h f)

theorem instrBody_length (i : Instr) (h : i.wellFormed = true) (f : FlagState) :
    (instrBody i f).length + 1 = i.cycles := by
  rw [(lengthAndCyclesFollowSequence i f h).2, sequenceOf_opcode i h, List.length_append,
    List.length_singleton]

/-! ## No other reset step, and no step that turns its own row -/

theorem reset_eq_false_of_mem_stagesBody {p : Stages} {m : MicroStep} (h : m ∈ p.body) :
    m.reset = false := by
  obtain ⟨operand, alu, copy⟩ := p
  simp only [Stages.body, List.mem_append, List.mem_singleton] at h
  obtain ((h | h) | h) | rfl := h
  · cases operand with
    | none => cases h
    | some b => rw [List.mem_singleton.mp h]; rfl
  · rcases alu with _ | ⟨op, src⟩
    · cases h
    · by_cases hop : op = .nop
      · subst hop
        cases src <;> cases h
      · rw [aluStageSteps_some src hop, List.mem_singleton] at h
        rw [h]
  · cases copy with
    | none => cases h
    | some dst => rw [List.mem_singleton.mp h]
  · rfl

theorem jumpBody_ordinary : ∀ (taken : Bool), ∀ m ∈ jumpBody taken,
    m.reset = false ∧ m.transfer.dest ≠ some .w := by
  decide

theorem reset_eq_false_of_mem_instrBody {i : Instr} {f : FlagState} {m : MicroStep}
    (h : m ∈ instrBody i f) : m.reset = false := by
  obtain ⟨p, hp⟩ | ⟨target, ht⟩ | rfl := stages_or_jump_or_halt i
  · rw [instrBody_of_stagesOf hp] at h
    exact reset_eq_false_of_mem_stagesBody h
  · rw [instrBody_of_jumpTarget ht] at h
    exact (jumpBody_ordinary _ m h).1
  · cases h

/-- An instruction that writes the flags has the same steps in every flag state (R287). -/
theorem instrBody_eq_of_dest_eq_w {i : Instr} {f : FlagState} {m : MicroStep}
    (h : m ∈ instrBody i f) (hw : m.transfer.dest = some .w) (g : FlagState) :
    instrBody i g = instrBody i f := by
  obtain ⟨p, hp⟩ | ⟨target, ht⟩ | rfl := stages_or_jump_or_halt i
  · rw [instrBody_of_stagesOf hp, instrBody_of_stagesOf hp]
  · rw [instrBody_of_jumpTarget ht] at h
    exact absurd hw (jumpBody_ordinary _ m h).2
  · rfl

/-! ## The sequence of an opcode -/

theorem exists_instr_of_opcode (o : Byte) :
    ∃ i : Instr, i.wellFormed = true ∧ i.opcode = o ∧ sequenceLength o = i.cycles := by
  have henc := formOf_encodesTo o
  unfold sequenceLength
  generalize formOf o = form at henc ⊢
  cases form with
  | op i => exact ⟨i, henc.1, List.head_eq_of_cons_eq henc.2, rfl⟩
  | opImm8 mk => exact ⟨mk 0, (henc 0).1, List.head_eq_of_cons_eq (henc 0).2, rfl⟩
  | opAddr16 mk => exact ⟨mk 0, (henc 0).1, List.head_eq_of_cons_eq (henc 0).2, rfl⟩

theorem sequenceLength_pos (o : Byte) : 0 < sequenceLength o := by
  obtain ⟨i, hwf, -, hlen⟩ := exists_instr_of_opcode o
  have := instrBody_length i hwf 0
  omega

theorem sequenceLength_le (o : Byte) : sequenceLength o ≤ 6 := by
  obtain ⟨i, -, -, hlen⟩ := exists_instr_of_opcode o
  exact hlen ▸ i.cycles_le

/-- A row's sequence: steps that are no reset and do not turn the row they are in, then one reset
step. -/
theorem sequenceOf_spec (o : Byte) (f : FlagState) :
    ∃ body : Steps, sequenceOf o f = body ++ [microReset] ∧ body.length + 1 = sequenceLength o ∧
      ∀ m ∈ body, m.reset = false ∧
        (m.transfer.dest = some .w → ∀ g, sequenceOf o g = sequenceOf o f) := by
  obtain ⟨i, hwf, rfl, hlen⟩ := exists_instr_of_opcode o
  refine ⟨instrBody i f, sequenceOf_opcode i hwf f, hlen ▸ instrBody_length i hwf f,
    fun m hm => ⟨reset_eq_false_of_mem_instrBody hm, fun hw g => ?_⟩⟩
  rw [sequenceOf_opcode i hwf, sequenceOf_opcode i hwf, instrBody_eq_of_dest_eq_w hm hw]

end Sys2Proof.Machine
end

section
/-!
The sequencer runs sequences (40_microstep.md R170, R172): with the generated ROM each cycle takes
the next step of the sequence of the opcode in `IR`, until the reset step.
-/

namespace Sys2Proof.Machine

open Sys2Proof.Stated

/-! ## Running a list of micro-steps -/

/-- What a list of micro-steps does, one after the other. -/
def runSteps (steps : Steps) (s : State) : State := steps.foldl (fun t m => microStep m t) s

@[simp] theorem runSteps_nil (s : State) : runSteps [] s = s := rfl

@[simp] theorem runSteps_cons (m : MicroStep) (steps : Steps) (s : State) :
    runSteps (m :: steps) s = runSteps steps (microStep m s) := rfl

/-! ## Where the sequencer stands in a sequence -/

/-- With the generated ROM, `done` are the steps the current instruction has run and `rest` those it
has yet to run before its reset step. -/
structure State.Running (s : State) (done rest : Steps) : Prop where
  generated : s.GeneratedRom
  stepCtr_toNat : s.stepCtr.toNat = done.length
  sequence : sequenceOf s.ir s.flagState = done ++ rest ++ [microReset]

/-- `STEP` within the sequence is somewhere in it. -/
theorem exists_running {s : State} (hrom : s.GeneratedRom)
    (hlt : s.stepCtr.toNat < sequenceLength s.ir) : ∃ done rest, s.Running done rest := by
  obtain ⟨body, hseq, hlen, -⟩ := sequenceOf_spec s.ir s.flagState
  refine ⟨body.take s.stepCtr.toNat, body.drop s.stepCtr.toNat, hrom, ?_, ?_⟩
  · rw [List.length_take]
    omega
  · rw [List.take_append_drop, hseq]

section
variable {s : State} {done rest : Steps}

theorem State.Running.length_eq (h : s.Running done rest) :
    done.length + rest.length + 1 = sequenceLength s.ir := by
  obtain ⟨body, hseq, hlen, -⟩ := sequenceOf_spec s.ir s.flagState
  rw [List.append_cancel_right (hseq.symm.trans h.sequence), List.length_append] at hlen
  exact hlen

theorem State.Running.of_mem {m : MicroStep} (h : s.Running done rest) (hm : m ∈ rest) :
    m.reset = false ∧
      (m.transfer.dest = some .w → ∀ g, sequenceOf s.ir g = sequenceOf s.ir s.flagState) := by
  obtain ⟨body, hseq, -, hbody⟩ := sequenceOf_spec s.ir s.flagState
  refine hbody m ?_
  rw [List.append_cancel_right (hseq.symm.trans h.sequence)]
  exact List.mem_append_right done hm

/-- The control word is the next step's byte. -/
theorem State.Running.controlWord_eq {m : MicroStep} {after : Steps}
    (h : s.Running done rest) (hnext : rest ++ [microReset] = m :: after) :
    s.controlWord = encodeStep m := by
  rw [s.controlWord_generated h.generated, romByteAt_romAddr, romByte_eq, h.stepCtr_toNat,
    h.sequence, List.append_assoc, hnext, List.getD_append_right _ _ _ _ le_rfl, Nat.sub_self]
  rfl

/-- At the end of the sequence the cycle is the reset step. -/
theorem State.Running.controlWord_reset (h : s.Running done []) : s.controlWord = 0x80 :=
  h.controlWord_eq rfl

theorem State.Running.cycle_reset (h : s.Running done []) :
    cycle s = .next (resetSequencer s) :=
  cycle_of_resetWord h.controlWord_reset

end

/-- A step changes the flag state only where the sequence does not depend on it (R287). -/
theorem sequenceOf_microStep {s : State} {m : MicroStep}
    (h : m.transfer.dest = some .w → ∀ g, sequenceOf s.ir g = sequenceOf s.ir s.flagState) :
    sequenceOf s.ir (microStep m s).flagState = sequenceOf s.ir s.flagState := by
  by_cases hw : m.transfer.dest = some .w
  · exact h hw _
  · obtain ⟨hc, hz, -, -⟩ := microStep_frame_of_dest_ne_w s hw
    rw [State.flagState, hc, hz]
    rfl

section
variable {s : State} {done rest : Steps} {m : MicroStep}

theorem State.Running.controlWord_ne_reset (h : s.Running done (m :: rest)) :
    s.controlWord ≠ 0x80 := by
  rw [h.controlWord_eq List.cons_append, ← encodeStep_microReset]
  intro heq
  have hreset := (h.of_mem List.mem_cons_self).1
  rw [encodeStep_injective heq] at hreset
  cases hreset

theorem State.Running.cycle_eq (h : s.Running done (m :: rest)) :
    cycle s = .next (microStep m s) :=
  cycle_of_decode s m (h.controlWord_eq List.cons_append ▸ decodeWord_encodeStep m)

/-- Before its end a cycle goes one step on in the same sequence. -/
theorem State.Running.after_microStep (h : s.Running done (m :: rest)) :
    (microStep m s).Running (done ++ [m]) rest := by
  obtain ⟨hreset, hdest⟩ := h.of_mem List.mem_cons_self
  have hlen := h.length_eq
  have hle := sequenceLength_le s.ir
  obtain ⟨hrom, -, hir, -⟩ := execTransfer_frame m.transfer m.alu s
  have hseq := sequenceOf_microStep hdest
  rw [microStep_ordinary m s hreset] at hseq ⊢
  refine ⟨hrom.trans h.generated, ?_, ?_⟩
  · rw [State.setStepCtr_stepCtr, BitVec.toNat_add, h.stepCtr_toNat, List.length_append]
    simp only [List.length_cons, List.length_nil, BitVec.ofNat_eq_ofNat, BitVec.toNat_ofNat]
    simp only [List.length_cons] at hlen
    omega
  · rw [State.setStepCtr_ir, hir, hseq, h.sequence, List.append_assoc done [m]]
    rfl

end

/-! ## Cycles through a sequence -/

/-- Cycles run the steps to come. -/
theorem State.Running.cycles_eq {now later : Steps} {s : State} {done : Steps}
    (h : s.Running done (now ++ later)) :
    cycles now.length s = .next (runSteps now s) ∧
      (runSteps now s).Running (done ++ now) later := by
  induction now generalizing s done with
  | nil => exact ⟨rfl, by rwa [List.append_nil]⟩
  | cons m now ih =>
    obtain ⟨hrun, hend⟩ := ih h.after_microStep
    refine ⟨(cycles_succ h.cycle_eq).trans hrun, ?_⟩
    rwa [List.append_assoc] at hend

/-- One cycle more than there are steps left ends the instruction. -/
theorem State.Running.cycles_to_end {rest : Steps} {s : State} {done : Steps}
    (h : s.Running done rest) :
    cycles (rest.length + 1) s = .next (resetSequencer (runSteps rest s)) := by
  induction rest generalizing s done with
  | nil => exact cycles_succ h.cycle_reset
  | cons m rest ih => exact (cycles_succ h.cycle_eq).trans (ih h.after_microStep)

/-- So does a run to the next reset step that may take as many. -/
theorem State.Running.runToReset_eq {rest : Steps} {s : State} {done : Steps} {fuel : Nat}
    (h : s.Running done rest) (hfuel : rest.length < fuel) :
    runToReset fuel s = .next (resetSequencer (runSteps rest s)) := by
  induction rest generalizing s done fuel with
  | nil =>
    obtain ⟨n, rfl⟩ := Nat.exists_eq_add_one_of_ne_zero hfuel.ne'
    exact runToReset_of_reset h.cycle_reset h.controlWord_reset
  | cons m rest ih =>
    obtain ⟨n, rfl⟩ := Nat.exists_eq_add_one_of_ne_zero (Nat.ne_zero_of_lt hfuel)
    rw [runToReset_of_ordinary h.cycle_eq h.controlWord_ne_reset]
    exact ih h.after_microStep (Nat.lt_of_succ_lt_succ hfuel)

/-- Settles O36: `STEP` is somewhere in its sequence; the cycle goes one step on, or it is the reset
step, which makes a boundary. -/
theorem cycleKeepsSequencerOk : Obligations.CycleKeepsSequencerOk := by
  rintro s t ⟨hrom, hlt, -⟩ hcycle
  obtain ⟨done, rest, h⟩ := exists_running hrom hlt
  cases rest with
  | nil =>
    cases hcycle.symm.trans h.cycle_reset
    exact ⟨hrom, sequenceLength_pos _, fun _ => rfl⟩
  | cons m rest =>
    cases hcycle.symm.trans h.cycle_eq
    have hstep := h.after_microStep
    have hlen := hstep.length_eq
    have hctr := hstep.stepCtr_toNat
    refine ⟨hstep.generated, by omega, fun hzero => ?_⟩
    rw [hzero, List.length_append] at hctr
    cases hctr

end Sys2Proof.Machine
end

section
/-!
An instruction is its micro-steps (40_microstep.md R170, 70_reset_and_hazards.md R390). Stage by
stage the steps do what the meaning does: the fetch latches the byte the instruction was decoded with, and
`STEP`, which no transfer reads, is all they differ in until the reset step clears it.
-/

namespace Sys2Proof.Machine

open Sys2Proof.Stated

/-! ## Steps that reach a state, but for `STEP` -/

/-- Started with any `STEP`, the steps lead from `s` to `t` with some `STEP`. -/
def Reaches (steps : Steps) (s t : State) : Prop :=
  ∀ k, ∃ k', runSteps steps (s.setStepCtr k) = t.setStepCtr k'

theorem Reaches.nil (s : State) : Reaches [] s s := fun k => ⟨k, rfl⟩

theorem Reaches.append {steps steps' : Steps} {s t u : State} (h : Reaches steps s t)
    (h' : Reaches steps' t u) : Reaches (steps ++ steps') s u := by
  intro k
  obtain ⟨k₁, h₁⟩ := h k
  obtain ⟨k₂, h₂⟩ := h' k₁
  exact ⟨k₂, by rw [runSteps, List.foldl_append]; exact (congrArg (runSteps steps') h₁).trans h₂⟩

/-- No transfer reads `STEP`. -/
theorem execTransfer_setStepCtr (transfer : Transfer) (op : AluOp) (s : State) (k : BitVec 4) :
    execTransfer transfer op (s.setStepCtr k) = (execTransfer transfer op s).setStepCtr k := by
  cases transfer <;> rfl

theorem Reaches.single {m : MicroStep} (hm : m.reset = false) (s : State) :
    Reaches [m] s (execTransfer m.transfer m.alu s) := by
  intro k
  refine ⟨k + 1, ?_⟩
  rw [runSteps_cons, runSteps_nil, microStep_ordinary m _ hm, execTransfer_setStepCtr]
  rfl

theorem Reaches.cons {m : MicroStep} {steps : Steps} {s t : State} (hm : m.reset = false)
    (h : Reaches steps (execTransfer m.transfer m.alu s) t) : Reaches (m :: steps) s t :=
  (Reaches.single hm s).append h

/-- The reset step clears the difference. -/
theorem Reaches.resetSequencer_eq {steps : Steps} {s t : State} (h : Reaches steps s t) :
    resetSequencer (runSteps steps s) = resetSequencer t := by
  obtain ⟨k, hk⟩ := h s.stepCtr
  have hreset : resetSequencer (runSteps steps s) = resetSequencer (t.setStepCtr k) :=
    congrArg resetSequencer hk
  exact hreset

/-! ## Stage by stage -/

/-- The step latches the byte of the stage where the program holds it after the opcode. -/
theorem fetchSteps_reaches {operand : Option Byte} {s : State}
    (h : ∀ b ∈ operand, s.progByte (s.pc + 1) = b) :
    Reaches (fetchSteps operand) s (fetchStage operand s) := by
  cases operand with
  | none => exact .nil s
  | some b =>
    obtain rfl := h b rfl
    exact .single (m := microFetch) rfl s

theorem aluStageSteps_reaches {alu : Option (AluOp × Source)} (h : ∀ a ∈ alu, a.1 ≠ .nop)
    (s : State) : Reaches (aluStageSteps alu) s (aluStage alu s) := by
  rcases alu with _ | ⟨op, src⟩
  · exact .nil s
  · rw [aluStageSteps_some src (h _ rfl), aluStage, ← execTransfer_source]
    exact .single rfl s

theorem copySteps_reaches (copy : Option Dest) (s : State) :
    Reaches (copySteps copy) s (copyStage copy s) := by
  cases copy with
  | none => exact .nil s
  | some dst =>
    rw [copyStage, ← execTransfer_dest dst .nop]
    exact .single rfl s

theorem Stages.body_reaches {p : Stages} {s : State}
    (hfetch : ∀ b ∈ p.operand, s.progByte (s.pc + 1) = b) (halu : ∀ a ∈ p.alu, a.1 ≠ .nop) :
    Reaches p.body s (p.beforeReset s) :=
  (((fetchSteps_reaches hfetch).append (aluStageSteps_reaches halu _)).append
    (copySteps_reaches p.copy _)).append (.single (m := microPcInc) rfl _)

/-- No instruction operates with the ALU's `NOP` (41_alu.md R200). -/
theorem alu_ne_nop_of_stagesOf {i : Instr} {p : Stages} (h : stagesOf i = some p) :
    ∀ a ∈ p.alu, a.1 ≠ .nop := by
  cases i <;> cases h <;> simp

/-! ## Jumps -/

/-- The three fetching steps latch the target's bytes where the program holds them after the
opcode. -/
theorem fetchTarget_eq {target : Addr} {s : State}
    (hlo : s.progByte (s.pc + 1) = targetLo target)
    (hhi : s.progByte (s.pc + 2) = targetHi target) :
    fetchTarget target s = immFetch (immToTmp (immFetch s)) := by
  rw [← pc_add_two] at hhi
  rw [fetchTarget, ← hlo, ← hhi]
  rfl

theorem jumpBody_reaches (taken : Bool) {target : Addr} {s : State}
    (hlo : s.progByte (s.pc + 1) = targetLo target)
    (hhi : s.progByte (s.pc + 2) = targetHi target) :
    Reaches (jumpBody taken) s (jumpBeforeReset taken target s) := by
  have hfetch : Reaches [microFetch, microImmToTmp, microFetch] s (fetchTarget target s) := by
    rw [fetchTarget_eq hlo hhi]
    exact .cons rfl (.cons rfl (.single rfl _))
  refine hfetch.append ?_
  cases taken with
  | true => exact .cons rfl (.single (m := microImmToPcH) rfl _)
  | false => exact .cons rfl (.single (m := microNop) rfl _)

/-! ## The instruction -/

/-- Where program memory holds the operand bytes after the opcode, the meaning is the steps and then
the reset step. -/
theorem exec_eq_runSteps {i : Instr} {s : State} {rest : List Byte}
    (hbytes : [s.progByte (s.pc + 1), s.progByte (s.pc + 2)] = i.operandBytes ++ rest) :
    exec i s = .next (resetSequencer (runSteps (instrBody i s.flagState) s)) := by
  obtain ⟨p, hp⟩ | ⟨target, ht⟩ | rfl := stages_or_jump_or_halt i
  · have hfetch : ∀ b ∈ p.operand, s.progByte (s.pc + 1) = b := by
      rintro b hb
      rw [operandBytes_of_stagesOf hp, Option.mem_def.mp hb] at hbytes
      exact List.head_eq_of_cons_eq hbytes
    rw [exec_of_stagesOf hp, p.run_eq, instrBody_of_stagesOf hp,
      (Stages.body_reaches hfetch (alu_ne_nop_of_stagesOf hp)).resetSequencer_eq]
  · rw [operandBytes_of_jumpTarget ht, List.cons_append, List.cons_append, List.cons.injEq,
      List.cons.injEq] at hbytes
    obtain ⟨hlo, hhi, -⟩ := hbytes
    rw [exec_of_jumpTarget ht, jumpIf_eq, instrBody_of_jumpTarget ht, s.flagState_getLsbD_one,
      s.flagState_getLsbD_zero, (jumpBody_reaches _ hlo hhi).resetSequencer_eq]
  · rfl

/-- Between instructions all steps of the one in `IR` are yet to be run. -/
theorem running_of_stepCtr_eq_zero {i : Instr} {s : State} (hrom : s.GeneratedRom)
    (hstep : s.stepCtr = 0) (hwf : i.wellFormed = true) (hir : s.ir = i.opcode) :
    s.Running [] (instrBody i s.flagState) :=
  ⟨hrom, by rw [hstep]; rfl, hir ▸ sequenceOf_opcode i hwf s.flagState⟩

/-- What is decoded from the fetched bytes: a well-formed instruction with the opcode in `IR` and
its operand bytes after the opcode in program memory. -/
theorem decode_fetchBytes {i : Instr} {s : State} {rest : List Byte}
    (h : decode (fetchBytes s) = .ok (i, rest)) :
    i.wellFormed = true ∧ s.ir = i.opcode ∧
      [s.progByte (s.pc + 1), s.progByte (s.pc + 2)] = i.operandBytes ++ rest := by
  obtain ⟨hwf, hbytes⟩ := decode_eq_ok_iff.mp h
  exact ⟨hwf, List.cons_eq_cons.mp hbytes⟩

/-- At a boundary the fetched bytes are the three at `PC`. -/
theorem fetchBytes_of_atBoundary {s : State} (h : s.AtBoundary) :
    fetchBytes s = [s.progByte s.pc, s.progByte (s.pc + 1), s.progByte (s.pc + 2)] := by
  rw [fetchBytes, h.2]

/-- Settles O37: the cycles run the instruction's steps and the reset step, and so does its
meaning. -/
theorem instructionIsItsMicrosteps : Obligations.InstructionIsItsMicrosteps := by
  intro s i rest hrom hb hdecode
  rw [← fetchBytes_of_atBoundary hb] at hdecode
  obtain ⟨hwf, hir, hbytes⟩ := decode_fetchBytes hdecode
  have hrun := running_of_stepCtr_eq_zero hrom hb.1 hwf hir
  have hlen := instrBody_length i hwf s.flagState
  constructor
  · rw [← hlen, hrun.cycles_to_end, exec_eq_runSteps hbytes]
  · intro k hk
    have hsplit := hrun
    rw [← List.take_append_drop k (instrBody i s.flagState)] at hsplit
    obtain ⟨hcycles, hrunning⟩ := hsplit.cycles_eq
    have hk' : ((instrBody i s.flagState).take k).length = k := by
      rw [List.length_take]
      omega
    rw [hk'] at hcycles
    refine ⟨_, hcycles, BitVec.eq_of_toNat_eq ?_⟩
    have hle := i.cycles_le
    rw [hrunning.stepCtr_toNat, List.nil_append, hk', BitVec.toNat_ofNat]
    omega

/-! ## The machine's step -/

theorem atInstruction_iff {s : State} (hrom : s.GeneratedRom) :
    s.atInstruction = true ↔ s.stepCtr = 0 := by
  rw [State.atInstruction, hrom, List.isEmpty_nil, Bool.and_true, beq_iff_eq]

theorem runFetched_of_decode {i : Instr} {s : State} {rest : List Byte}
    (h : decode (fetchBytes s) = .ok (i, rest)) : runFetched s = exec i s := by
  rw [runFetched, h]

theorem step_of_decode {i : Instr} {s : State} {rest : List Byte} (hrom : s.GeneratedRom)
    (hstep : s.stepCtr = 0) (h : decode (fetchBytes s) = .ok (i, rest)) :
    step s = exec i s := by
  rw [step, if_pos ((atInstruction_iff hrom).mpr hstep), runFetched_of_decode h]

theorem exists_decode_fetchBytes (s : State) :
    ∃ i rest, decode (fetchBytes s) = .ok (i, rest) := by
  obtain ⟨i, rest, h, -⟩ := everyOpcodeDecodes s.ir (s.progByte (s.pc + 1)) (s.progByte (s.pc + 2))
  exact ⟨i, rest, h⟩

/-- Settles O38: where an instruction begins, its meaning and the run to the next reset step both
run its steps; anywhere else the step is that run. -/
theorem stepIsMicrocode : Obligations.StepIsMicrocode := by
  intro s hrom
  by_cases hstep : s.stepCtr = 0
  · obtain ⟨i, rest, hdecode⟩ := exists_decode_fetchBytes s
    obtain ⟨hwf, hir, hbytes⟩ := decode_fetchBytes hdecode
    have hrun := running_of_stepCtr_eq_zero hrom hstep hwf hir
    have hfuel : (instrBody i s.flagState).length < 16 := by
      have := instrBody_length i hwf s.flagState
      have := i.cycles_le
      omega
    rw [step_of_decode hrom hstep hdecode, exec_eq_runSteps hbytes, hrun.runToReset_eq hfuel]
  · rw [step, if_neg (mt (atInstruction_iff hrom).mp hstep)]
    rfl

/-- Settles O39: at a boundary the fetched bytes are those at `PC`. -/
theorem stepRunsDecodedInstruction : Obligations.StepRunsDecodedInstruction :=
  fun _ _ _ hrom hb hdecode =>
    step_of_decode hrom hb.1 ((congrArg decode (fetchBytes_of_atBoundary hb)).trans hdecode)

/-! ## Boundary states -/

theorem fetchStage_gr (operand : Option Byte) (s : State) : (fetchStage operand s).gr = s.gr := by
  cases operand <;> rfl

theorem aluStage_gr (alu : Option (AluOp × Source)) (s : State) : (aluStage alu s).gr = s.gr := by
  rcases alu with _ | ⟨op, src⟩
  · rfl
  · rw [aluStage, aluToW_eq]

/-- A copy into the register file keeps the file's canonical form. -/
theorem copyStage_gr_wf (copy : Option Dest) {s : State} (h : Mem.wf .gr s.gr = true) :
    Mem.wf .gr (copyStage copy s).gr = true := by
  rcases copy with _ | dst
  · exact h
  · cases dst with
    | sp | outA | outB => exact h
    | regImm => exact s.wf_setGrByte s.imm s.w h
    | regSp => exact s.wf_setGrByte s.sp s.w h

theorem Stages.run_gr_wf (p : Stages) {s : State} (h : Mem.wf .gr s.gr = true) :
    Mem.wf .gr (p.run s).gr = true :=
  copyStage_gr_wf p.copy (by rwa [aluStage_gr, fetchStage_gr])

theorem jumpIf_gr (taken : Bool) (target : Addr) (s : State) :
    (jumpIf taken target s).gr = s.gr := by
  cases taken <;>
    simp [jumpIf, fetchTarget, jumpTaken, latchImm_eq, immToTmp_eq, tmpToPcL_eq, immToPcH_eq,
      pcInc_eq, resetSequencer_eq]

theorem exec_memoryWf {i : Instr} {s t : State} (h : exec i s = .next t) (hwf : s.MemoryWf) :
    t.MemoryWf := by
  obtain ⟨hrom, hprog, hgr⟩ := hwf
  obtain ⟨hprog', hrom'⟩ := exec_sameStore h
  refine ⟨by rwa [hrom'], by rwa [hprog'], ?_⟩
  obtain ⟨p, hp⟩ | ⟨target, ht⟩ | rfl := stages_or_jump_or_halt i
  · rw [exec_of_stagesOf hp] at h
    cases h
    exact p.run_gr_wf hgr
  · rw [exec_of_jumpTarget ht] at h
    cases h
    rwa [jumpIf_gr]
  · cases h
    exact hgr

/-- Settles O40: the step is an instruction's meaning, which ends at a boundary. -/
theorem stepKeepsBoundaryOk : Obligations.StepKeepsBoundaryOk := by
  rintro s t ⟨hrom, hb, hwf⟩ hstep
  obtain ⟨i, rest, hdecode⟩ := exists_decode_fetchBytes s
  rw [step_of_decode hrom hb.1 hdecode] at hstep
  exact ⟨(exec_sameStore hstep).2.trans hrom, exec_atBoundary hstep, exec_memoryWf hstep hwf⟩

end Sys2Proof.Machine
end

section
/-!
The ALU instructions (41_alu.md R200 to R253). A form without writeback is an optional fetch and one
operation on `W`; a writeback form leaves the same with `W` copied into its operand register.
-/

namespace Sys2Proof.Machine

open Sys2Proof.Stated

/-! ## Results and carries as functions of `W` and the operand -/

theorem aluResult_add_fst (w x : Byte) : (aluResult .add w x).1 = w + x := by
  apply BitVec.eq_of_toNat_eq
  rw [aluResult, sumResult_toNat, addSum_toNat, BitVec.toNat_add]

/-- The result and the carry from what is known of each. -/
theorem aluResult_eq_of_carry_iff {op : AluOp} {w x r : Byte} {p : Prop} [Decidable p]
    (hr : (aluResult op w x).1 = r) (hc : (aluResult op w x).2 = true ↔ p) :
    aluResult op w x = (r, decide p) :=
  Prod.ext hr (Bool.eq_iff_iff.mpr (hc.trans decide_eq_true_iff.symm))

theorem aluResult_add (w x : Byte) :
    aluResult .add w x = (w + x, decide (256 ≤ w.toNat + x.toNat)) :=
  aluResult_eq_of_carry_iff (aluResult_add_fst w x) (aluResult_add_carry_iff w x)

theorem aluResult_sub (w x : Byte) : aluResult .sub w x = (w - x, decide (x.toNat ≤ w.toNat)) :=
  aluResult_eq_of_carry_iff (aluResult_sub_fst w x) (aluResult_sub_carry_iff w x)

theorem aluResult_neg (w x : Byte) : aluResult .neg w x = (0 - x, decide (x = 0)) :=
  aluResult_eq_of_carry_iff (aluResult_neg_fst w x) (aluResult_neg_carry_iff w x)

theorem aluResult_and (w x : Byte) : aluResult .and w x = (w &&& x, false) := rfl

theorem aluResult_or (w x : Byte) : aluResult .or w x = (w ||| x, false) := rfl

theorem aluResult_xor (w x : Byte) : aluResult .xor w x = (w ^^^ x, false) := rfl

theorem aluResult_load (w x : Byte) : aluResult .load w x = (x, false) := rfl

/-! ## Forms without writeback -/

/-- An instruction with stages ends past the bytes it fetched. -/
theorem Stages.run_endsAfter (p : Stages) (s : State) :
    EndsAfter (1 + p.operand.toList.length) s (p.run s) := by
  have hpc := p.run_pc s
  obtain ⟨hprog, -⟩ := p.run_sameStore s
  have hir : (p.run s).ir = (p.run s).progByte (p.run s).pc := rfl
  refine ⟨hpc, ?_, rfl⟩
  rw [hir, hpc, State.progByte, hprog, State.progByte]

/-- The fetch changes `PC` and `IMM` alone. -/
theorem fetchStage_eq (operand : Option Byte) (s : State) :
    fetchStage operand s = { s with
      pc := s.pc + BitVec.ofNat 16 operand.toList.length
      imm := operand.getD s.imm } := by
  rw [← fetchStage_pc]
  cases operand <;> rfl

/-- An operation on `W` leaves its result and carry, the byte it fetched in `IMM` and, with operand
`IN`, one sample taken. -/
theorem Stages.run_aluLeaves {op : AluOp} {src : Source} {operand : Option Byte} {s : State}
    {result : Byte} {carry : Bool}
    (h : aluResult op s.w (operandValue src (fetchStage operand s)) = (result, carry)) :
    AluLeaves result carry (1 + operand.toList.length) (operand.getD s.imm) s.sp s.grByte
      (src.transfer == .inToW) s (Stages.run { operand, alu := some (op, src) } s) := by
  have hrun : Stages.run { operand, alu := some (op, src) } s =
      endInstr (aluToW op src (fetchStage operand s)) := rfl
  have hend := Stages.run_endsAfter { operand, alu := some (op, src) } s
  have hport := aluToW_samples op src (fetchStage operand s)
  rw [fetchStage_eq] at h
  rw [hrun] at hend ⊢
  rw [aluToW_eq, fetchStage_eq, h] at hend hport ⊢
  exact ⟨rfl, rfl, beq_eq_decide _ _, hend, rfl, rfl, fun _ => rfl, hport, rfl, rfl, rfl, rfl, rfl⟩

/-- The five forms of an operation leave what its rule gives, if they have the stages of R200. -/
theorem plainFormsComplete_of_stages {op : AluOp} {res : Byte → Byte → Byte}
    {carry : Byte → Byte → Bool} {onSp onRegSp onIn : Instr} {onRegImm onImm : Byte → Instr}
    (h : ∀ w x, aluResult op w x = (res w x, carry w x))
    (hSp : stagesOf onSp = some { alu := some (op, .sp) })
    (hRegImm : ∀ b, stagesOf (onRegImm b) = some { operand := some b, alu := some (op, .regImm) })
    (hRegSp : stagesOf onRegSp = some { alu := some (op, .regSp) })
    (hImm : ∀ b, stagesOf (onImm b) = some { operand := some b, alu := some (op, .imm) })
    (hIn : stagesOf onIn = some { alu := some (op, .inPort) }) :
    PlainFormsComplete res carry onSp onRegImm onRegSp onImm onIn := fun s b =>
  ⟨⟨_, exec_of_stagesOf hSp s, Stages.run_aluLeaves (h s.w s.sp)⟩,
    ⟨_, exec_of_stagesOf (hRegImm b) s, Stages.run_aluLeaves (h s.w (s.grByte b))⟩,
    ⟨_, exec_of_stagesOf hRegSp s, Stages.run_aluLeaves (h s.w (s.grByte s.sp))⟩,
    ⟨_, exec_of_stagesOf (hImm b) s, Stages.run_aluLeaves (h s.w b)⟩,
    ⟨_, exec_of_stagesOf hIn s, Stages.run_aluLeaves (h s.w s.inValue)⟩⟩

/-! ## Writeback forms -/

/-- The closing steps do not see the copy of `W`. -/
theorem endInstr_moveW (dst : Dest) (s : State) :
    endInstr (moveW dst s) = moveW dst (endInstr s) := by
  cases dst <;> rfl

/-- A writeback form is the form without writeback and the copy of `W`. -/
theorem exec_of_stagesOf_copy {i : Instr} {operand : Option Byte} {alu : Option (AluOp × Source)}
    {dst : Dest} (h : stagesOf i = some { operand, alu, copy := some dst }) (s : State) :
    exec i s = .next (moveW dst (Stages.run { operand, alu } s)) := by
  rw [exec_of_stagesOf h, Stages.run, copyStage, endInstr_moveW]
  rfl

section
variable {result : Byte} {carry : Bool} {len : Nat} {imm sp : Byte} {gr : Byte → Byte} {drawn : Bool}
  {s t : State}

/-- Copying `W` to `SP` puts the result there. -/
theorem aluLeaves_moveW_sp (h : AluLeaves result carry len imm sp gr drawn s t) :
    AluLeaves result carry len imm result gr drawn s (moveW .sp t) := by
  obtain ⟨hw, hc, hz, hend, himm, -, hgr, hport, hkeep⟩ := h
  exact ⟨hw, hc, hz, hend, himm, hw, hgr, hport, hkeep⟩

/-- Copying `W` to the register file puts the result at the index used. -/
theorem aluLeaves_setGrByte (h : AluLeaves result carry len imm sp s.grByte drawn s t) (i : Byte) :
    AluLeaves result carry len imm sp (grWith s i result) drawn s (t.setGrByte i t.w) := by
  obtain ⟨hw, hc, hz, hend, himm, hsp, hgr, hport, hkeep⟩ := h
  refine ⟨hw, hc, hz, hend, himm, hsp, fun j => ?_, hport, hkeep⟩
  rw [State.grByte_setGrByte, hw, hgr, grWith]

theorem aluLeaves_moveW_regImm (h : AluLeaves result carry len imm sp s.grByte drawn s t) :
    AluLeaves result carry len imm sp (grWith s imm result) drawn s (moveW .regImm t) := by
  have ⟨_, _, _, _, himm, _⟩ := h
  subst himm
  exact aluLeaves_setGrByte h t.imm

theorem aluLeaves_moveW_regSp (h : AluLeaves result carry len imm sp s.grByte drawn s t) :
    AluLeaves result carry len imm sp (grWith s sp result) drawn s (moveW .regSp t) := by
  have ⟨_, _, _, _, _, hsp, _⟩ := h
  subst hsp
  exact aluLeaves_setGrByte h t.sp

end

/-- The three writeback forms of an operation leave what its rule gives, if they have the stages of
R200. -/
theorem writebackFormsComplete_of_stages {op : AluOp} {res : Byte → Byte → Byte}
    {carry : Byte → Byte → Bool} {onSp onRegSp : Instr} {onRegImm : Byte → Instr}
    (h : ∀ w x, aluResult op w x = (res w x, carry w x))
    (hSp : stagesOf onSp = some { alu := some (op, .sp), copy := some .sp })
    (hRegImm : ∀ b, stagesOf (onRegImm b) =
      some { operand := some b, alu := some (op, .regImm), copy := some .regImm })
    (hRegSp : stagesOf onRegSp = some { alu := some (op, .regSp), copy := some .regSp }) :
    WritebackFormsComplete res carry onSp onRegImm onRegSp := fun s b =>
  ⟨⟨_, exec_of_stagesOf_copy hSp s, aluLeaves_moveW_sp (Stages.run_aluLeaves (h s.w s.sp))⟩,
    ⟨_, exec_of_stagesOf_copy (hRegImm b) s,
      aluLeaves_moveW_regImm (Stages.run_aluLeaves (h s.w (s.grByte b)))⟩,
    ⟨_, exec_of_stagesOf_copy hRegSp s,
      aluLeaves_moveW_regSp (Stages.run_aluLeaves (h s.w (s.grByte s.sp)))⟩⟩

/-! ## The obligations -/

/-- Settles O43: the carry is set where the sum reaches 256. -/
theorem waddFormsComplete : Obligations.WaddFormsComplete :=
  ⟨plainFormsComplete_of_stages aluResult_add rfl (fun _ => rfl) rfl (fun _ => rfl) rfl,
    writebackFormsComplete_of_stages aluResult_add rfl (fun _ => rfl) rfl⟩

/-- Settles O44: the carry is set where there is no borrow. -/
theorem wsubFormsComplete : Obligations.WsubFormsComplete :=
  ⟨plainFormsComplete_of_stages aluResult_sub rfl (fun _ => rfl) rfl (fun _ => rfl) rfl,
    writebackFormsComplete_of_stages aluResult_sub rfl (fun _ => rfl) rfl⟩

/-- Settles O45: `W` is no input, and the carry is set for operand 0 alone. -/
theorem wnegFormsComplete : Obligations.WnegFormsComplete :=
  ⟨plainFormsComplete_of_stages aluResult_neg rfl (fun _ => rfl) rfl (fun _ => rfl) rfl,
    writebackFormsComplete_of_stages aluResult_neg rfl (fun _ => rfl) rfl⟩

/-- Settles O46: the carry is cleared. -/
theorem wandFormsComplete : Obligations.WandFormsComplete :=
  ⟨plainFormsComplete_of_stages aluResult_and rfl (fun _ => rfl) rfl (fun _ => rfl) rfl,
    writebackFormsComplete_of_stages aluResult_and rfl (fun _ => rfl) rfl⟩

/-- Settles O47: the carry is cleared. -/
theorem worFormsComplete : Obligations.WorFormsComplete :=
  ⟨plainFormsComplete_of_stages aluResult_or rfl (fun _ => rfl) rfl (fun _ => rfl) rfl,
    writebackFormsComplete_of_stages aluResult_or rfl (fun _ => rfl) rfl⟩

/-- Settles O48: the carry is cleared. -/
theorem wxorFormsComplete : Obligations.WxorFormsComplete :=
  ⟨plainFormsComplete_of_stages aluResult_xor rfl (fun _ => rfl) rfl (fun _ => rfl) rfl,
    writebackFormsComplete_of_stages aluResult_xor rfl (fun _ => rfl) rfl⟩

/-- Settles O49: the result is the operand, and no form writes back. -/
theorem wloadFormsComplete : Obligations.WloadFormsComplete :=
  plainFormsComplete_of_stages aluResult_load rfl (fun _ => rfl) rfl (fun _ => rfl) rfl

end Sys2Proof.Machine
end

section
/-!
The store instructions (42_store.md R270 to R275). A store is an optional fetch, after which everything
but `PC`, `IMM` and the sequencer is as before, and the copy of `W` into its destination.
-/

namespace Sys2Proof.Machine

open Sys2Proof.Stated

/-- A fetch alone stores nothing: it leaves the byte it fetched, if any, in `IMM`. -/
theorem Stages.run_fetch_storeLeaves (operand : Option Byte) (s : State) :
    StoreLeaves (1 + operand.toList.length) (operand.getD s.imm) s.sp s.grByte s.outA s.outB s
      (Stages.run { operand } s) := by
  have hend := Stages.run_endsAfter { operand } s
  have hrun : Stages.run { operand } s = endInstr (fetchStage operand s) := rfl
  rw [hrun, fetchStage_eq] at hend ⊢
  exact ⟨hend, rfl, rfl, fun _ => rfl, rfl, rfl, rfl, rfl, rfl, rfl, rfl, rfl, rfl, rfl⟩

/-! ## The copy of `W` into each destination -/

section
variable {len : Nat} {imm sp outA outB : Byte} {gr : Byte → Byte} {s t : State}

theorem storeLeaves_moveW_sp (h : StoreLeaves len imm sp gr outA outB s t) :
    StoreLeaves len imm s.w gr outA outB s (moveW .sp t) := by
  obtain ⟨hend, himm, -, hgr, ha, hb, hw, hkeep⟩ := h
  exact ⟨hend, himm, hw, hgr, ha, hb, hw, hkeep⟩

theorem storeLeaves_moveW_outA (h : StoreLeaves len imm sp gr outA outB s t) :
    StoreLeaves len imm sp gr s.w outB s (moveW .outA t) := by
  obtain ⟨hend, himm, hsp, hgr, -, hb, hw, hkeep⟩ := h
  exact ⟨hend, himm, hsp, hgr, hw, hb, hw, hkeep⟩

theorem storeLeaves_moveW_outB (h : StoreLeaves len imm sp gr outA outB s t) :
    StoreLeaves len imm sp gr outA s.w s (moveW .outB t) := by
  obtain ⟨hend, himm, hsp, hgr, ha, -, hw, hkeep⟩ := h
  exact ⟨hend, himm, hsp, hgr, ha, hw, hw, hkeep⟩

/-- Copying `W` to the register file puts it at the index used. -/
theorem storeLeaves_setGrByte (h : StoreLeaves len imm sp s.grByte outA outB s t) (i : Byte) :
    StoreLeaves len imm sp (grWith s i s.w) outA outB s (t.setGrByte i t.w) := by
  obtain ⟨hend, himm, hsp, hgr, ha, hb, hw, hkeep⟩ := h
  refine ⟨hend, himm, hsp, fun j => ?_, ha, hb, hw, hkeep⟩
  rw [State.grByte_setGrByte, hw, hgr, grWith]

theorem storeLeaves_moveW_regImm (h : StoreLeaves len imm sp s.grByte outA outB s t) :
    StoreLeaves len imm sp (grWith s imm s.w) outA outB s (moveW .regImm t) := by
  have ⟨_, himm, _⟩ := h
  subst himm
  exact storeLeaves_setGrByte h t.imm

theorem storeLeaves_moveW_regSp (h : StoreLeaves len imm sp s.grByte outA outB s t) :
    StoreLeaves len imm sp (grWith s sp s.w) outA outB s (moveW .regSp t) := by
  have ⟨_, _, hsp, _⟩ := h
  subst hsp
  exact storeLeaves_setGrByte h t.sp

end

/-- Settles O50: each form is its fetch, only `REG_IMM` having one, and the copy of `W`. -/
theorem storesComplete : Obligations.StoresComplete := by
  intro s b
  have hnone := Stages.run_fetch_storeLeaves none s
  have hfetch := Stages.run_fetch_storeLeaves (some b) s
  exact ⟨⟨_, exec_of_stagesOf_copy rfl s, storeLeaves_moveW_sp hnone⟩,
    ⟨_, exec_of_stagesOf_copy rfl s, storeLeaves_moveW_regImm hfetch⟩,
    ⟨_, exec_of_stagesOf_copy rfl s, storeLeaves_moveW_regSp hnone⟩,
    ⟨_, exec_of_stagesOf_copy rfl s, storeLeaves_moveW_outA hnone⟩,
    ⟨_, exec_of_stagesOf_copy rfl s, storeLeaves_moveW_outB hnone⟩⟩

end Sys2Proof.Machine
end

section
/-!
The jump instructions (43_jump.md R280 to R287). A taken and an untaken jump differ in `PC` alone, and
with it in the opcode the reset step fetches.
-/

namespace Sys2Proof.Machine

open Sys2Proof.Stated

/-- The fetch of the target leaves `PC` at its high byte and its two bytes in `TMP` and `IMM`. -/
theorem fetchTarget_eq_update (target : Addr) (s : State) :
    fetchTarget target s =
      { s with pc := s.pc + 2, tmp := targetLo target, imm := targetHi target } := by
  rw [fetchTarget, latchImm_eq, immToTmp_eq, latchImm_eq, pc_add_two]

/-- The taken path keeps no byte of the old `PC`. -/
theorem jumpTaken_eq (s : State) : jumpTaken s = { s with pc := targetOf s.tmp s.imm } := by
  rw [jumpTaken, tmpToPcL_eq, immToPcH_eq, BitVec.extractLsb'_append_eq_right]
  rfl

/-- Up to the reset step a jump changes `PC`, `TMP` and `IMM` alone (R280). -/
theorem jumpBeforeReset_eq (taken : Bool) (target : Addr) (s : State) :
    jumpBeforeReset taken target s = { s with
      pc := if taken then target else s.pc + 3
      tmp := targetLo target
      imm := targetHi target } := by
  rw [jumpBeforeReset, fetchTarget_eq_update]
  cases taken with
  | true => rw [if_pos rfl, if_pos rfl, jumpTaken_eq, targetOf_bytes]
  | false =>
    rw [if_neg Bool.false_ne_true, if_neg Bool.false_ne_true, pcInc_eq, ← pc_add_two, pc_add_three]

theorem jumpIf_jumpLeaves {taken : Bool} {condition : Prop} (h : taken = true ↔ condition)
    (target : Addr) (s : State) :
    JumpLeaves condition target s (jumpIf taken target s) := by
  rw [jumpIf_eq, jumpBeforeReset_eq]
  exact ⟨fun hc => if_pos (h.mpr hc), fun hc => if_neg (mt h.mp hc), rfl, rfl, rfl, rfl, rfl, rfl,
    rfl, rfl, fun _ => rfl, rfl, rfl, rfl, rfl, rfl, rfl⟩

/-- Every jump completes, by the condition its flags give. -/
theorem exec_jumpLeaves {i : Instr} {target : Addr} {condition : Prop} {s : State}
    (ht : jumpTarget i = some target) (h : i.taken s.flagC s.flagZ = true ↔ condition) :
    ∃ t, exec i s = .next t ∧ JumpLeaves condition target s t :=
  ⟨_, exec_of_jumpTarget ht s, jumpIf_jumpLeaves h target s⟩

/-- Settles O51: the jumps share one meaning, and each gives it its own condition on the flags. -/
theorem jumpsComplete : Obligations.JumpsComplete := by
  intro s target
  have hjmp : (Instr.jmp target).taken s.flagC s.flagZ = true ↔ True := iff_true_intro rfl
  have hjnz : (Instr.jnz target).taken s.flagC s.flagZ = true ↔ s.flagZ = false :=
    Bool.not_eq_true' s.flagZ |>.to_iff
  have hjnc : (Instr.jnc target).taken s.flagC s.flagZ = true ↔ s.flagC = false :=
    Bool.not_eq_true' s.flagC |>.to_iff
  have hjzc : (Instr.jzc target).taken s.flagC s.flagZ = true ↔
      s.flagC = true ∧ s.flagZ = true := Bool.and_eq_true_iff
  exact ⟨exec_jumpLeaves rfl hjmp, exec_jumpLeaves rfl .rfl, exec_jumpLeaves rfl hjnz,
    exec_jumpLeaves rfl .rfl, exec_jumpLeaves rfl hjnc, exec_jumpLeaves rfl hjzc⟩

end Sys2Proof.Machine
end

section
/-!
`NOP`, `HALT` and the fillers (44_nop_halt.md R300 to R302). `HALT` is the reset step alone, which
changes nothing in a boundary state: the cycle, the step, and so every later one of each, are the
identity there.
-/

namespace Sys2Proof.Machine

theorem exec_nop (s : State) : exec .nop s = .next (endInstr s) := rfl

theorem exec_filler (code : Byte) (s : State) : exec (.filler code) s = .next (endInstr s) := rfl

theorem exec_halt (s : State) : exec .halt s = .next (resetSequencer s) := rfl

/-- Settles O52: the closing steps are all that `NOP` and a filler do. -/
theorem nopAndFillersOnlyAdvance : Obligations.NopAndFillersOnlyAdvance := by
  intro s code
  rw [exec_nop, exec_filler, endInstr_eq]
  exact ⟨rfl, rfl⟩

/-- Settles O53: the reset step is all that `HALT` does. -/
theorem haltRefetchesItself : Obligations.HaltRefetchesItself := by
  intro s
  rw [exec_halt, resetSequencer_eq]

/-! ## An ended run -/

/-- Refetching the opcode at `PC` changes nothing where it is already in `IR`. -/
theorem resetSequencer_of_atBoundary {s : State} (h : s.AtBoundary) : resetSequencer s = s := by
  obtain ⟨hstep, hir⟩ := h
  rw [resetSequencer_eq, ← hir, ← hstep]

/-- A run has ended where the reset step of `HALT` is all that is left of the instruction. -/
theorem State.Ended.running {s : State} (h : s.Ended) (hrom : s.GeneratedRom) :
    s.Running [] [] := by
  obtain ⟨hir, hstep⟩ := h
  exact running_of_stepCtr_eq_zero (i := .halt) hrom hstep rfl hir

theorem cycle_of_ended {s : State} (hrom : s.GeneratedRom) (hb : s.AtBoundary) (h : s.Ended) :
    cycle s = .next s := by
  rw [(h.running hrom).cycle_reset, resetSequencer_of_atBoundary hb]

theorem step_of_ended {s : State} (hrom : s.GeneratedRom) (hb : s.AtBoundary) (h : s.Ended) :
    step s = .next s := by
  rw [stepIsMicrocode s hrom, (h.running hrom).runToReset_eq (Nat.zero_lt_succ _), runSteps_nil,
    resetSequencer_of_atBoundary hb]

theorem cycles_of_cycle_eq_self {s : State} (h : cycle s = .next s) (n : Nat) :
    cycles n s = .next s := by
  induction n with
  | zero => rfl
  | succ n ih => rw [cycles_succ h, ih]

/-- The same of any machine's steps. -/
theorem run_of_step_eq_self {M : Host.Core} {s : M.State} (h : M.step s = .next s) (n : Nat) :
    M.run n s = .next s := by
  induction n with
  | zero => rfl
  | succ n ih =>
    rw [Host.Core.run, h]
    exact ih

/-- Settles O54: the cycle and the step of an ended run lead to the state itself, and so do any
number of them. -/
theorem endedRunStays : Obligations.EndedRunStays := fun n _ hrom hb hended =>
  ⟨cycles_of_cycle_eq_self (cycle_of_ended hrom hb hended) n,
    run_of_step_eq_self (M := Sys2Proof.core) (step_of_ended hrom hb hended) n⟩

end Sys2Proof.Machine
end

section
/-!
The generator over any catalog (45_table_generator.md R320 to R331, 60_exceptions.md R359): what each
of its stages answers, and which errors it can end with.
-/

namespace Sys2Proof

theorem FlagState.forall_iff {p : FlagState → Prop} : (∀ f, p f) ↔ p 0 ∧ p 1 ∧ p 2 ∧ p 3 := by
  refine ⟨fun h => ⟨h 0, h 1, h 2, h 3⟩, fun ⟨h0, h1, h2, h3⟩ f => ?_⟩
  obtain rfl | rfl | rfl | rfl := FlagState.cases f <;> assumption

theorem FlagState.exists_iff {p : FlagState → Prop} : (∃ f, p f) ↔ p 0 ∨ p 1 ∨ p 2 ∨ p 3 := by
  rw [← not_iff_not, not_exists, FlagState.forall_iff]
  simp only [not_or]

/-- A computation that answers has answered at its first stage. -/
theorem exists_of_bind_eq_ok {ε α β : Type} {x : Except ε α} {next : α → Except ε β} {b : β}
    (h : x >>= next = .ok b) : ∃ a, x = .ok a ∧ next a = .ok b := by
  cases x with
  | error e => cases h
  | ok a => exact ⟨a, rfl, h⟩

/-! ## The rows of one opcode -/

section
variable {o : Nat} {e : Entry} {steps : FlagState → Steps}

/-- The checks on the four sequences, once each is there. -/
theorem generateRows_of_stepsFor (h : ∀ f, e.stepsFor f = .ok (steps f)) :
    generateRows o e =
      if 16 < (steps 0).length ∨ 16 < (steps 1).length ∨ 16 < (steps 2).length ∨
          16 < (steps 3).length then .error .tableOverflow
      else if (steps 1).length ≠ (steps 0).length ∨ (steps 2).length ≠ (steps 0).length ∨
          (steps 3).length ≠ (steps 0).length then .error (.branchLengthMismatch o)
      else .ok [padRow (steps 0), padRow (steps 1), padRow (steps 2), padRow (steps 3)] := by
  simp only [generateRows, h]
  rfl

theorem generateRows_of_long (h : ∀ f, e.stepsFor f = .ok (steps f))
    (hlong : ∃ f, 16 < (steps f).length) : generateRows o e = .error .tableOverflow := by
  rw [generateRows_of_stepsFor h, if_pos (FlagState.exists_iff.mp hlong)]

theorem generateRows_of_unbalanced (h : ∀ f, e.stepsFor f = .ok (steps f))
    (hfit : ∀ f, (steps f).length ≤ 16) (hne : ∃ f g, (steps f).length ≠ (steps g).length) :
    generateRows o e = .error (.branchLengthMismatch o) := by
  rw [generateRows_of_stepsFor h, if_neg, if_pos]
  · by_contra hall
    push Not at hall
    have heq : ∀ f, (steps f).length = (steps 0).length := FlagState.forall_iff.mpr ⟨rfl, hall⟩
    obtain ⟨f, g, hfg⟩ := hne
    exact hfg ((heq f).trans (heq g).symm)
  · rw [← FlagState.exists_iff (p := fun f => 16 < (steps f).length)]
    rintro ⟨f, hf⟩
    exact (hfit f).not_gt hf

/-- An opcode with rows has a sequence in every flag state. -/
theorem stepsFor_of_generateRows {rows : List (List Byte)} (h : generateRows o e = .ok rows) :
    ∀ f, e.stepsFor f = .ok (e.steps f) := by
  have steps_eq : ∀ f seq, e.stepsFor f = .ok seq → e.stepsFor f = .ok (e.steps f) := by
    intro f seq hseq
    rw [Entry.steps, hseq]
  obtain ⟨s0, h0, h⟩ := exists_of_bind_eq_ok h
  obtain ⟨s1, h1, h⟩ := exists_of_bind_eq_ok h
  obtain ⟨s2, h2, h⟩ := exists_of_bind_eq_ok h
  obtain ⟨s3, h3, -⟩ := exists_of_bind_eq_ok h
  exact FlagState.forall_iff.mpr
    ⟨steps_eq 0 s0 h0, steps_eq 1 s1 h1, steps_eq 2 s2 h2, steps_eq 3 s3 h3⟩

/-- Rows are built only of four sequences of one length that fit (R322 to R324). -/
theorem generateRows_ok {rows : List (List Byte)} (h : generateRows o e = .ok rows) :
    rows = e.rows ∧ (e.steps 0).length ≤ 16 ∧ ∀ f, (e.steps f).length = (e.steps 0).length := by
  rw [generateRows_of_stepsFor (stepsFor_of_generateRows h)] at h
  split at h
  next => cases h
  next hfit =>
    split at h
    next => cases h
    next hbalanced =>
      push Not at hfit hbalanced
      cases h
      exact ⟨rfl, hfit.1, FlagState.forall_iff.mpr ⟨rfl, hbalanced⟩⟩

end

/-! ## The rows of all opcodes -/

/-- A table holds the rows of each entry, which were built at the entry's own opcode. -/
theorem generateTable_ok {entries : List Entry} :
    ∀ {n : Nat} {table : ControlTable}, generateTable n entries = .ok table →
      table = entries.map Entry.rows ∧ ∀ e ∈ entries, ∃ k, generateRows k e = .ok e.rows := by
  induction entries with
  | nil => intro n table h; cases h; simp
  | cons e entries ih =>
    intro n table h
    obtain ⟨rows, hrows, h⟩ := exists_of_bind_eq_ok h
    obtain ⟨more, hmore, h⟩ := exists_of_bind_eq_ok h
    obtain ⟨rfl, hrest⟩ := ih hmore
    obtain ⟨rfl, -⟩ := generateRows_ok hrows
    cases h
    exact ⟨rfl, List.forall_mem_cons.mpr ⟨⟨n, hrows⟩, hrest⟩⟩

/-- Opcodes whose rows can be built leave the outcome to the opcodes after them. -/
theorem generateTable_append {entries rest : List Entry} :
    ∀ {n : Nat}, (∀ k (hk : k < entries.length), ∃ rows, generateRows (n + k) entries[k] = .ok rows) →
      ∃ built : ControlTable, generateTable n (entries ++ rest) =
        (generateTable (n + entries.length) rest).map (built ++ ·) := by
  induction entries with
  | nil =>
    intro n _
    refine ⟨[], ?_⟩
    cases hrest : generateTable n rest <;> simp [hrest, Except.map]
  | cons e entries ih =>
    intro n h
    obtain ⟨rows, hrows⟩ := h 0 (Nat.zero_lt_succ _)
    obtain ⟨built, hbuilt⟩ := ih (n := n + 1) fun k hk => by
      simpa [Nat.add_assoc, Nat.add_comm 1] using h (k + 1) (Nat.succ_lt_succ hk)
    refine ⟨rows :: built, ?_⟩
    rw [Nat.add_zero, List.getElem_cons_zero] at hrows
    rw [List.cons_append, generateTable, hrows, hbuilt, List.length_cons, Nat.add_assoc,
      Nat.add_comm 1]
    cases generateTable (n + (entries.length + 1)) rest <;> rfl

/-! ## The catalog filled out -/

theorem buildCatalog_length : buildCatalog.length = 66 := by
  rw [buildCatalog, List.length_map, catalogKinds_length]

theorem padCatalog_length {cat : List Entry} (h : cat.length ≤ 256) :
    (padCatalog cat).length = 256 := by
  rw [padCatalog, List.length_append, List.length_replicate]
  exact Nat.add_sub_cancel' h

theorem padCatalog_of_length {cat : List Entry} (h : cat.length = 256) : padCatalog cat = cat := by
  rw [padCatalog, h]
  exact List.append_nil cat

/-- Filling out leaves every entry at its opcode. -/
theorem padCatalog_getElem? {cat : List Entry} (k : Fin cat.length) :
    (padCatalog cat)[k.val]? = some (cat.get k) := by
  rw [padCatalog, List.getElem?_append_left k.isLt]
  exact List.getElem?_eq_getElem k.isLt

/-! ## The errors of the stages -/

theorem buildIndex_error {entries : List Entry} {err : BuildError} :
    ∀ {n : Nat} {index : OpcodeIndex}, buildIndex n index entries = .error err →
      ∃ name operand, err = .duplicateInstruction name operand := by
  induction entries with
  | nil => intro n index h; cases h
  | cons e entries ih =>
    intro n index h
    rw [buildIndex] at h
    split at h
    next => exact ih h
    next =>
      split at h
      next => cases h; exact ⟨_, _, rfl⟩
      next => exact ih h

theorem checkInvariants_error {full : List Entry} {table : ControlTable} {index : OpcodeIndex}
    {err : BuildError} (h : checkInvariants full table index = .error err) :
    err = .tableInvariant := by
  unfold checkInvariants at h
  split at h <;> cases h
  rfl

section
variable {cat : List Entry}

theorem generateFrom_of_overflow (h : 256 < cat.length) :
    generateFrom cat = .error .tableOverflow := if_pos h

/-- A catalog that fits goes through the stages in their order (R320). -/
theorem generateFrom_of_fits (h : cat.length ≤ 256) :
    generateFrom cat = (do
      let table ← generateTable 0 (padCatalog cat)
      let index ← buildIndex 0 [] cat
      checkInvariants (padCatalog cat) table index
      return table) := if_neg (not_lt.mpr h)

theorem generateFrom_of_table_error {err : BuildError} (h : cat.length ≤ 256)
    (htable : generateTable 0 (padCatalog cat) = .error err) : generateFrom cat = .error err := by
  rw [generateFrom_of_fits h, htable]
  rfl

/-- Once the table is built, only its checks can fail. -/
theorem generateFrom_of_table {table : ControlTable} (h : cat.length ≤ 256)
    (htable : generateTable 0 (padCatalog cat) = .ok table) :
    generateFrom cat = .ok table ∨ generateFrom cat = .error .tableInvariant ∨
      ∃ name operand, generateFrom cat = .error (.duplicateInstruction name operand) := by
  rw [generateFrom_of_fits h, htable]
  cases hindex : buildIndex 0 [] cat with
  | error err =>
    obtain ⟨name, operand, rfl⟩ := buildIndex_error hindex
    exact .inr (.inr ⟨name, operand, rfl⟩)
  | ok index =>
    cases hcheck : checkInvariants (padCatalog cat) table index with
    | error err =>
      obtain rfl := checkInvariants_error hcheck
      exact .inr (.inl (by simp only [bind, Except.bind, hcheck]))
    | ok => exact .inl (by simp only [bind, Except.bind, hcheck]; rfl)

end

/-! ## The obligations -/

/-- Settles O20: the table is the rows of the entries, each built where its sequences had one length
that fits, and the initializer's last check has looked at every byte. -/
theorem generatedTableIsWhole : Obligations.GeneratedTableIsWhole := by
  intro cat table h
  obtain ⟨hlen, htable, index, -, hcheck⟩ := generateFrom_ok h
  obtain ⟨hsize, hshape, -, -⟩ := checkInvariants_ok hcheck
  refine ⟨hlen, hsize, fun o => ?_⟩
  obtain ⟨rfl, hbuilt⟩ := generateTable_ok htable
  have ho : o.val < (padCatalog cat).length := (padCatalog_length hlen).symm ▸ o.isLt
  have he : (padCatalog cat).getD o fillerEntry ∈ padCatalog cat := by
    rw [List.getD_eq_getElem _ _ ho]
    exact List.getElem_mem ho
  have hrows : ((padCatalog cat).map Entry.rows).getD o [] =
      ((padCatalog cat).getD o fillerEntry).rows := by
    rw [List.getD_eq_getElem _ _ ((List.length_map _).symm ▸ ho), List.getElem_map,
      List.getD_eq_getElem _ _ ho]
  rw [hrows]
  generalize (padCatalog cat).getD o fillerEntry = e at he
  obtain ⟨k, hk⟩ := hbuilt e he
  obtain ⟨-, hfit, hbalanced⟩ := generateRows_ok hk
  refine ⟨_, hfit, rfl, fun f => ⟨e.steps f, stepsFor_of_generateRows hk f, hbalanced f, ?_, ?_⟩⟩
  · rw [Entry.rows_getD, padRow, hbalanced f]
    rfl
  · have hmem : e.rows.getD f.toNat [] ∈ e.rows := by
      rw [List.getD_eq_getElem _ _ f.isLt]
      exact List.getElem_mem _
    exact ((hshape _ (List.mem_map_of_mem he)).2 _ hmem).2

/-- Settles O21: the count is the first check, and after it a row that can be built does not
overflow. -/
theorem opcodeSpaceOverflow : Obligations.OpcodeSpaceOverflow := by
  refine ⟨fun _ => generateFrom_of_overflow, fun cat hlen hrows => ?_,
    fun _ => padCatalog_of_length, buildCatalog_length⟩
  obtain ⟨built, hbuilt⟩ := generateTable_append (n := 0) (rest := []) fun k hk => by
    simpa using hrows ⟨k, hk⟩
  rw [List.append_nil, ← padCatalog_of_length hlen] at hbuilt
  obtain h | h | ⟨name, operand, h⟩ := generateFrom_of_table hlen.le hbuilt <;> simp [h]

/-- Settles O22: the opcodes before the first that fails pass its error on. -/
theorem firstFailingOpcodeEndsGeneration : Obligations.FirstFailingOpcodeEndsGeneration := by
  refine ⟨fun before after e err hlen hrows herr => generateFrom_of_table_error hlen ?_,
    fun o e steps h => ⟨generateRows_of_long h, generateRows_of_unbalanced h⟩⟩
  rw [padCatalog, List.append_assoc, List.cons_append]
  obtain ⟨built, hbuilt⟩ := generateTable_append (n := 0) fun k hk => by
    simpa using hrows ⟨k, hk⟩
  rw [hbuilt, generateTable, Nat.zero_add, herr]
  rfl

/-- Settles O23: in a checked table each of the two entries resolves to its own opcode, so one key
would have two. -/
theorem duplicateKeyYieldsNoTable : Obligations.DuplicateKeyYieldsNoTable := by
  intro cat i j hij hi hj hname hoperand table h
  obtain ⟨-, -, index, -, hcheck⟩ := generateFrom_ok h
  obtain ⟨-, -, hresolves, -⟩ := checkInvariants_ok hcheck
  have hfindi := indexFind_of_resolvesToItself hresolves (padCatalog_getElem? i) hi
  have hfindj := indexFind_of_resolvesToItself hresolves (padCatalog_getElem? j) hj
  rw [hname, hoperand, hfindj] at hfindi
  simp only [Nat.zero_add, Option.some.injEq] at hfindi
  exact hij.ne (Fin.ext hfindi.symm)

end Sys2Proof
end

section
/-!
Lookups in catalog S1's index (45_table_generator.md R340 to R342): a key that is found is that of the
entry at its opcode.
-/

namespace Sys2Proof

/-- What the index finds is an entry of the key, at its opcode. -/
theorem exists_entry_of_indexFind {entries : List Entry} {name operand : String} {o : Nat} :
    ∀ {n : Nat}, indexFind (indexEntries n entries) name operand = some o →
      ∃ k e, o = n + k ∧ entries[k]? = some e ∧ e.name = name ∧ e.operand = operand := by
  induction entries with
  | nil => intro n h; cases h
  | cons first entries ih =>
    intro n h
    have later : indexFind (indexEntries (n + 1) entries) name operand = some o →
        ∃ k e, o = n + k ∧ (first :: entries)[k]? = some e ∧ e.name = name ∧
          e.operand = operand := by
      intro hfind
      obtain ⟨k, e, rfl, he, hkey⟩ := ih hfind
      exact ⟨k + 1, e, Nat.succ_add_eq_add_succ n k, he, hkey⟩
    rw [indexEntries] at h
    split at h
    next => exact later h
    next =>
      rw [List.singleton_append, indexFind] at h
      split at h
      next hkey => cases h; exact ⟨0, first, rfl, rfl, hkey⟩
      next => exact later h

/-- A key that resolves stands in the catalog at the opcode it resolves to. -/
theorem exists_entry_of_resolveOpcode {name operand : String} {o : Byte}
    (h : resolveOpcode name operand = .ok o) :
    ∃ e, buildCatalog[o.toNat]? = some e ∧ e.name = name ∧ e.operand = operand := by
  unfold resolveOpcode at h
  split at h
  next opcode hfind =>
    cases h
    obtain ⟨k, e, rfl, he, hkey⟩ := exists_entry_of_indexFind hfind
    obtain ⟨hk, -⟩ := List.getElem?_eq_some_iff.mp he
    rw [buildCatalog_length] at hk
    refine ⟨e, ?_, hkey⟩
    rwa [Nat.zero_add, BitVec.toNat_ofNat, Nat.mod_eq_of_lt (by omega)]
  next => cases h

/-- Settles O24: a lookup finds the entry at its opcode, which is the one that is described; the
initializer has checked the other direction. -/
theorem resolveInvertsDescribe : Obligations.ResolveInvertsDescribe := by
  refine ⟨fun name operand o h => ?_, fun o ho => ?_, fun o ho => ?_⟩
  · obtain ⟨e, he, rfl, rfl⟩ := exists_entry_of_resolveOpcode h
    obtain ⟨ho, -⟩ := List.getElem?_eq_some_iff.mp he
    refine ⟨buildCatalog_length ▸ ho, ?_⟩
    rw [describeOpcode, fullCatalog, padCatalog, List.getElem?_append_left ho, he]
  · rw [describeOpcode_eq]
    exact resolveOpcode_opcodeKind ho
  · rw [describeOpcode_eq, opcodeKind_of_le ho]
    rfl

end Sys2Proof
end

section
/-!
The rows of catalog S1 (45_table_generator.md R332): where a row depends on the flag state, where its
one reset step stands and what stands before it; and that no cycle meets an illegal word (R330).
-/

namespace Sys2Proof.Machine

open Sys2Proof.Stated

/-! ## Cycles never fault -/

theorem exists_cycle_of_generatedRom {s : State} (h : s.GeneratedRom) :
    ∃ t, cycle s = .next t ∧ t.GeneratedRom := by
  have hlegal : legalWord s.controlWord = true := by
    rw [s.controlWord_generated h, romByteAt_romAddr]
    exact legalWord_romByte _ _ _
  obtain ⟨m, hm⟩ := Option.isSome_iff_exists.mp hlegal
  have hcycle := cycle_of_decode s m hm
  exact ⟨_, hcycle, (cycle_sameStore hcycle).2.trans h⟩

/-- Settles O35, by induction on the number of cycles. -/
theorem generatedRomNeverFaults : Obligations.GeneratedRomNeverFaults := by
  intro n
  induction n with
  | zero => exact fun s h => ⟨s, rfl, h⟩
  | succ n ih =>
    intro s h
    obtain ⟨t, hcycle, ht⟩ := exists_cycle_of_generatedRom h
    rw [cycles_succ hcycle]
    exact ih t ht

/-! ## Which rows depend on the flag state -/

theorem opcode_of_jumpTarget {i : Instr} {target : Addr} (h : jumpTarget i = some target) :
    0x3A ≤ i.opcode.toNat ∧ i.opcode.toNat ≤ 0x3F := by
  cases i with
  | jmp | jz | jnz | jc | jnc | jzc => simp [Instr.opcode]
  | _ => cases h

theorem wellFormed_of_jumpTarget {i : Instr} {target : Addr} (h : jumpTarget i = some target) :
    i.wellFormed = true := by
  cases i <;> cases h <;> rfl

theorem sequenceOf_of_not_jump {o : Byte} (h : o.toNat < 0x3A ∨ 0x3F < o.toNat)
    (f g : FlagState) : sequenceOf o f = sequenceOf o g := by
  obtain ⟨i, hwf, rfl, -⟩ := exists_instr_of_opcode o
  rw [sequenceOf_opcode i hwf, sequenceOf_opcode i hwf]
  obtain ⟨p, hp⟩ | ⟨target, ht⟩ | rfl := stages_or_jump_or_halt i
  · rw [instrBody_of_stagesOf hp, instrBody_of_stagesOf hp]
  · have := opcode_of_jumpTarget ht
    omega
  · rfl

/-- Settles O26: only a jump's sequence asks for the flag state. -/
theorem onlyJumpRowsDifferByFlags : Obligations.OnlyJumpRowsDifferByFlags := by
  intro o f g k h
  rw [romByte_eq, romByte_eq, sequenceOf_of_not_jump h f g]

/-! ## How a row ends -/

theorem encodeStep_eq_reset_iff {m : MicroStep} : encodeStep m = 0x80 ↔ m.reset = true := by
  rw [← encodeStep_microReset]
  exact ⟨fun h => encodeStep_injective h ▸ rfl, fun h => MicroStep.eq_microReset h ▸ rfl⟩

/-- The reset step stands at the end of the sequence, and in the padding after it. -/
theorem romByte_eq_reset_iff (o : Byte) (f : FlagState) (k : BitVec 4) :
    romByte o f k = 0x80 ↔ sequenceLength o ≤ k.toNat + 1 := by
  obtain ⟨body, hseq, hlen, hbody⟩ := sequenceOf_spec o f
  rw [romByte_eq, encodeStep_eq_reset_iff, hseq, ← hlen, Nat.add_le_add_iff_right]
  rcases lt_or_ge k.toNat body.length with hk | hk
  · rw [List.getD_append _ _ _ _ hk, List.getD_eq_getElem _ _ hk,
      (hbody _ (List.getElem_mem hk)).1]
    simpa using hk
  · rw [List.getD_append_right _ _ _ _ hk, List.getD_eq_getElem?_getD]
    refine iff_of_true ?_ hk
    cases k.toNat - body.length <;> rfl

/-- A step that may stand before the closing reset step: `PC_INC`, `IMM->PC_H`, or the no-op of a jump
that is not taken (R332 item 7). -/
def closingSteps : Steps := [microPcInc, microImmToPcH, microNop]

theorem instrBody_eq_append_closing {i : Instr} (h : i ≠ .halt) (f : FlagState) :
    ∃ init, ∃ m ∈ closingSteps, instrBody i f = init ++ [m] := by
  obtain ⟨p, hp⟩ | ⟨target, ht⟩ | rfl := stages_or_jump_or_halt i
  · exact ⟨_, microPcInc, by simp [closingSteps], instrBody_of_stagesOf hp f⟩
  · rw [instrBody_of_jumpTarget ht]
    cases i.taken (f.getLsbD 1) (f.getLsbD 0) with
    | true => exact ⟨_, microImmToPcH, by simp [closingSteps],
        (List.append_assoc [microFetch, microImmToTmp, microFetch] [microTmpToPcL] _).symm⟩
    | false => exact ⟨_, microNop, by simp [closingSteps],
        (List.append_assoc [microFetch, microImmToTmp, microFetch] [microPcInc] _).symm⟩
  · exact absurd rfl h

theorem sequenceLength_halt : sequenceLength 0x41 = 1 := rfl

/-- Every row but that of `HALT` has a closing step before its reset step. -/
theorem sequenceOf_ends (o : Byte) (f : FlagState) :
    o = 0x41 ∨ ∃ init, ∃ m ∈ closingSteps, sequenceOf o f = init ++ [m, microReset] ∧
      sequenceLength o = init.length + 2 := by
  obtain ⟨i, hwf, rfl, hlen⟩ := exists_instr_of_opcode o
  by_cases hi : i = .halt
  · subst hi
    exact .inl rfl
  · obtain ⟨init, m, hm, hbody⟩ := instrBody_eq_append_closing hi f
    refine .inr ⟨init, m, hm, ?_, ?_⟩
    · rw [sequenceOf_opcode i hwf, hbody, List.append_assoc]
      rfl
    · rw [hlen, ← instrBody_length i hwf f, hbody, List.length_append]
      rfl

/-- Settles O27: the reset step closes the sequence and fills the row after it, and what stands before
it is a closing step, except in `HALT`, which has nothing there. -/
theorem rowsEndInOneReset : Obligations.RowsEndInOneReset := by
  intro o f
  have hends := sequenceOf_ends o f
  refine ⟨sequenceLength_pos o, sequenceLength_le o, ?_, fun k =>
    ⟨romByte_eq_reset_iff o f k, fun hk => ?_⟩⟩
  · obtain rfl | ⟨init, m, -, -, hlen⟩ := hends
    · exact iff_of_true sequenceLength_halt rfl
    · refine iff_of_false (by omega) ?_
      rintro rfl
      rw [sequenceLength_halt] at hlen
      omega
  · obtain rfl | ⟨init, m, hm, hseq, hlen⟩ := hends
    · rw [sequenceLength_halt] at hk
      omega
    · have hindex : k.toNat = init.length := by omega
      rw [romByte_eq, hseq, hindex, List.getD_append_right _ _ _ _ le_rfl, Nat.sub_self]
      exact List.mem_map_of_mem (f := encodeStep) hm

/-! ## The rows of a jump -/

/-- A jump's row shows which path its condition takes in the flag state. -/
theorem romByte_jumpRow {i : Instr} {target : Addr} (h : jumpTarget i = some target)
    (f : FlagState) :
    [romByte i.opcode f 0, romByte i.opcode f 1, romByte i.opcode f 2, romByte i.opcode f 3,
        romByte i.opcode f 4, romByte i.opcode f 5] =
      [0x3E, 0x3B, 0x3E] ++
        if i.taken (f.getLsbD 1) (f.getLsbD 0) then [0x3C, 0x3D, 0x80] else [0x3F, 0x30, 0x80] := by
  simp only [romByte_eq, sequenceOf_opcode i (wellFormed_of_jumpTarget h),
    instrBody_of_jumpTarget h]
  cases i.taken (f.getLsbD 1) (f.getLsbD 0) <;> rfl

/-- Settles O28: the listed conditions are those of the six jumps. -/
theorem jumpRowsFollowCondition : Obligations.JumpRowsFollowCondition := by
  intro o f taken h
  simp only [List.mem_cons, Prod.mk.injEq, List.not_mem_nil, or_false] at h
  obtain ⟨rfl, rfl⟩ | ⟨rfl, rfl⟩ | ⟨rfl, rfl⟩ | ⟨rfl, rfl⟩ | ⟨rfl, rfl⟩ | ⟨rfl, rfl⟩ := h
  · exact romByte_jumpRow (i := .jmp 0) rfl f
  · exact romByte_jumpRow (i := .jz 0) rfl f
  · exact romByte_jumpRow (i := .jnz 0) rfl f
  · exact romByte_jumpRow (i := .jc 0) rfl f
  · exact romByte_jumpRow (i := .jnc 0) rfl f
  · exact romByte_jumpRow (i := .jzc 0) rfl f

end Sys2Proof.Machine
end

section
/-!
What a step answers (60_exceptions.md R360, R361). The three bytes fetched decode whatever they are,
and every instruction's meaning answers a next state, so no step from a boundary faults or refuses.
-/

namespace Sys2Proof.Machine

/-- Settles O41: at a boundary the step is the meaning of the instruction decoded, which ends with the
reset step. -/
theorem boundaryStepCompletes : Obligations.BoundaryStepCompletes := by
  rintro s ⟨hrom, ⟨hstepCtr, -⟩, -⟩
  obtain ⟨i, rest, hdecode⟩ := exists_decode_fetchBytes s
  obtain ⟨u, hexec⟩ := exec_eq_resetSequencer i s
  exact ⟨resetSequencer u, (step_of_decode hrom hstepCtr hdecode).trans hexec⟩

end Sys2Proof.Machine
end

section
/-!
Power-on reset (70_reset_and_hazards.md R380 to R383). It is the sequencer's reset step with `PC` at 0,
so it makes a boundary from any state; the sequencer's invariant follows from the boundary.
-/

namespace Sys2Proof.Machine

theorem powerOn_eq_resetSequencer (s : State) : s.powerOn = resetSequencer (s.setPc 0) := rfl

theorem powerOn_atBoundary (s : State) : s.powerOn.AtBoundary :=
  powerOn_eq_resetSequencer s ▸ resetSequencer_atBoundary (s.setPc 0)

theorem reset_powerOn : State.reset.powerOn = State.reset := rfl

/-- At a boundary `STEP` is 0, inside every sequence, since each holds its reset step. -/
theorem sequencerOk_of_atBoundary {s : State} (hrom : s.GeneratedRom) (hb : s.AtBoundary) :
    s.SequencerOk := by
  obtain ⟨hstepCtr, hir⟩ := hb
  refine ⟨hrom, ?_, fun _ => hir⟩
  rw [hstepCtr]
  exact sequenceLength_pos s.ir

/-- Settles O42: power-on makes a boundary and keeps the ROM and the memories; the reset state is at
the boundary power-on leaves it at. -/
theorem powerOnEstablishesInvariants : Obligations.PowerOnEstablishesInvariants := by
  have hreset : State.reset.AtBoundary := reset_powerOn ▸ powerOn_atBoundary State.reset
  refine ⟨State.powerOn_eq, fun s hrom => ?_, fun s hrom hwf => ?_, ?_, ?_⟩
  · exact sequencerOk_of_atBoundary hrom (powerOn_atBoundary s)
  · exact ⟨hrom, powerOn_atBoundary s, hwf⟩
  · exact sequencerOk_of_atBoundary rfl hreset
  · exact ⟨rfl, hreset, State.wf_reset⟩

end Sys2Proof.Machine
end
